-- ==== Sys2Proof/Word.lean ====
section
/-! DEFINITION. The byte and the 32-bit word of the wires and items. -/

namespace Sys2Proof

/-- One byte of a message or frame (chapter 11: every message is a sequence of whole bytes). -/
abbrev Byte := BitVec 8

/-- The value of an item and of a counter (section 10.4, R173). -/
abbrev Word32 := BitVec 32

end Sys2Proof
end

