-- ==== Sys2Proof/Config.lean ====
section
/-! DEFINITION. What the part fixes: capacities (Table 0-2), codes and intervals that are one number each. The one value the spec leaves open is a free value with no body (log entry 16). -/

namespace Sys2Proof.Config

/-- Home rows of a bank, physical rows 0–65519 (Table 0-1). -/
abbrev homeRows : Nat := 65520

/-- Host-visible lines, 16 × 65520 × 32 (R3). -/
abbrev hostLines : Nat := 33546240

/-- Slots of the remap table (R5). -/
abbrev remapSlots : Nat := 128

/-- Records of the suspect list (R45). -/
def suspectCapacity : Nat := 32

/-- Records of the loss list (R58). -/
def lossCapacity : Nat := 8

/-- Requests of the repair queue (R66). -/
def queueCapacity : Nat := 8

/-- Host credits granted at entry to UP (R122). -/
def creditGrant : Nat := 64

/-- DLINK_TIMEOUT after power-on and device reset (R153). -/
def dlinkTimeoutDefault : Nat := 2000

/-- Length of the DP_RST_n pulse and of the DEVICE_RESET hold in microseconds (R147, R176). -/
def pulseLength : Nat := 10

/-- Ticks of 1 µs in a second: decay_interval is given in seconds (R52). -/
def ticksPerSecond : Nat := 1000000

/-- Bytes the command shift buffer keeps after the frame type byte (R167). -/
def shiftCapacity : Nat := 16

/-- Frame type byte of a COMMAND frame (Table 11-5). -/
def frameCommand : Byte := 90#8

/-- Frame type byte of a RESULT frame (Table 11-5). -/
def frameResult : Byte := 165#8

/-- Part code and design step of RESET_REPORT (R176). -/
def partCode : Nat := 2216

/-- Design step of RESET_REPORT (R176). -/
def designStep : Byte := 1#8

/-- FREE VALUE (log entry 16): bit `bit` that MG_SDO shows, from the second byte on, in frame number `frame` of
a type that is neither COMMAND nor RESULT. R165 gives the bits for those two types alone. -/
opaque unknownFrameBit (frame bit : Nat) : Bool

end Sys2Proof.Config
end

