-- ==== Sys2Proof/Machine/Bytes.lean ====
section
/-! DEFINITION. Byte order of the wires (chapter 11: most significant byte first; within a byte, bit 7 first). -/

namespace Sys2Proof.Machine

/-- The number a byte sequence spells, most significant byte first. -/
def beNat (bytes : List Byte) : Nat :=
  bytes.foldl (fun acc b => acc * 256 + b.toNat) 0

/-- `n` as one byte. -/
def byte (n : Nat) : Byte := BitVec.ofNat 8 n

/-- `n` as two bytes. -/
def be16 (n : Nat) : List Byte := [byte (n / 256), byte n]

/-- A 32-bit value as four bytes. -/
def be32 (w : Word32) : List Byte :=
  [byte (w.toNat / 16777216), byte (w.toNat / 65536), byte (w.toNat / 256), byte w.toNat]

/-- A 64-bit mask as eight bytes (Table 11-1: byte 6 holds mask bits 63–56). -/
def be64 (m : BitVec 64) : List Byte :=
  be32 (BitVec.ofNat 32 (m.toNat / 4294967296)) ++ be32 (BitVec.ofNat 32 m.toNat)

/-- A flag as a byte, 0 or 1. -/
def flagByte (b : Bool) : Byte := if b then 1#8 else 0#8

/-- The bits of a byte as they go over the SPI wire, bit 7 first (R165). -/
def byteBits (b : Byte) : List Bool :=
  [b.getLsbD 7, b.getLsbD 6, b.getLsbD 5, b.getLsbD 4, b.getLsbD 3, b.getLsbD 2, b.getLsbD 1, b.getLsbD 0]

/-- The byte that the first eight sampled bits make (R165). -/
def firstByte (bits : List Bool) : Byte :=
  byte ((bits.take 8).foldl (fun acc b => acc * 2 + cond b 1 0) 0)

end Sys2Proof.Machine
end

