-- ==== Sys2Proof/Machine/Frames.lean ====
section
/-! DEFINITION. What the first bytes of a management frame name (R166, R167, R179). -/

namespace Sys2Proof.Machine

/-- An action code of Table 11-7: 1 to 29 (R179: code 0 and codes 30 to 255 name no action). -/
def namesAction (code : Byte) : Bool := 1 ≤ code.toNat && code.toNat ≤ 29

/-- R166, cases 2 and 3: bits sampled, and either a partial byte or an unknown frame type. -/
def isFrameError (bits : List Bool) : Bool :=
  !bits.isEmpty &&
    (bits.length % 8 != 0 ||
      (firstByte bits != Config.frameCommand && firstByte bits != Config.frameResult))

/-- An item number with a row of its own in the table: 1 to 9 and 16 to 19 (Table 11-9). -/
def itemHasOwnRow (item : Byte) : Bool :=
  (1 ≤ item.toNat && item.toNat ≤ 9) || (16 ≤ item.toNat && item.toNat ≤ 19)

end Sys2Proof.Machine
end

