-- ==== Sys2Proof/Syntax.lean ====
section
/-! DEFINITION. The commands of the block: one constructor per row of spec/opcode_table.json, with the operands of that row. -/

namespace Sys2Proof

/-- The nine profile fields of Table 6-1, in item-number order (Table 11-9, items 1 to 9). -/
inductive ProfileField where
  | ceThreshold
  | autoRepair
  | commitMode
  | retryLimit
  | scrubInterval
  | scrubWriteback
  | decayInterval
  | spareWatermark
  | starvationLimit
  deriving DecidableEq, Repr

/-- What the port sees of a management frame that names no action. -/
inductive FrameEvent where
  /-- MG_CS_n falls: a frame begins, of a type not known yet (R165). DESIGN CHOICE (log entry 10): the table
  has no row for this edge. -/
  | fall
  /-- MG_CS_n rises: the frame ends, with the bits sampled over the whole of it, first bit first (R166). -/
  | rise (bits : List Bool)
  deriving DecidableEq, Repr

/-- A command the block takes. A command that is a management action carries the ARGUMENT BYTES of its
COMMAND frame (the bytes after the action code, Table 11-7), so that the argument count (R167 check 2)
and the ranges (R179) are judged on what was sent. -/
inductive Instr where
  /-- A whole upstream message, byte 0 first (Table 11-1, R178). -/
  | upstreamRequest (msg : List Byte)
  /-- UP_RST_n falls (R134). -/
  | upstreamLinkReset
  /-- UP_RST_n rises (R123). -/
  | upRstNRelease
  /-- The upstream link enters UP where its conditions hold (R123). -/
  | upstreamLinkUp
  /-- A drain whose records are gone ends (R131). -/
  | drainEnd
  /-- One issue opportunity and its grant (R141, R142); `ready` is the level of DP_REQ_READY after it. -/
  | arbiterGrant (ready : Bool)
  /-- A whole downstream answer, byte 0 first (Table 11-4, R178). -/
  | downstreamAnswer (msg : List Byte)
  /-- The response timer runs out (R146). -/
  | responseTimerExpiry
  /-- DP_READY falls (R148). -/
  | dpReadyFall
  /-- DP_READY rises (R147). -/
  | dpReadyRise
  /-- The DP_RST_n pulse is released (R147). -/
  | dpRstPulseEnd
  /-- The downstream link enters UP where its conditions hold (R147). -/
  | downstreamLinkUp
  /-- An edge of DP_REQ_READY, to `level`: its rise, or the fall, for which the table has no row (R141, log
  entry 6). -/
  | dpReqReadyRise (level : Bool := true)
  /-- The migration engine makes a start (R71). -/
  | migrationStart
  /-- The scrub interval timer runs out (R98). -/
  | scrubIntervalExpiry
  /-- The decay timer runs out (R53). -/
  | decayExpiry
  /-- Power-up, or the supplies fall below their limits (R174). -/
  | powerOnReset
  /-- The supplies are within limits; `rise` says that RST_n rises at this event (R174, log entry 5). -/
  | powerOnResetEnd (rise : Bool := false)
  /-- RST_n falls (R175). -/
  | rstNFall
  /-- A source of the device reset ends: RST_n rises where `rise` holds, else the hold of DEVICE_RESET has
  passed (R175, log entry 5). -/
  | deviceResetEnd (rise : Bool := false)
  /-- A RESULT frame of `nBytes` whole bytes, its type byte included (R170). -/
  | resultFrame (nBytes : Nat)
  /-- The fall of MG_CS_n, or the end of a frame that R166 judges by its cases 1 to 3. -/
  | mgmtFrameError (event : FrameEvent)
  /-- A COMMAND frame whose action code is missing or names no action (R167 check 1). -/
  | unknownAction (code : Option Byte) (args : List Byte)
  | remapLoad (args : List Byte)
  | remapRead (args : List Byte)
  | remapFind (args : List Byte)
  | spareStatus (args : List Byte)
  | spareRetire (args : List Byte)
  | suspectRead (args : List Byte)
  | suspectClear (args : List Byte)
  | candidateList (args : List Byte)
  | lossRead (args : List Byte)
  | repairRequest (args : List Byte)
  | repairCancel (args : List Byte)
  | queueRead (args : List Byte)
  | commit (args : List Byte)
  | discard (args : List Byte)
  | abort (args : List Byte)
  | migrationStatus (args : List Byte)
  | scrubStart (args : List Byte)
  | scrubStop (args : List Byte)
  | scrubStatus (args : List Byte)
  | gateOpen (args : List Byte)
  | gateDrain (args : List Byte)
  | recover (args : List Byte)
  | linkStatus (args : List Byte)
  | alertIdentify (args : List Byte)
  | itemRead (args : List Byte)
  /-- An ITEM_WRITE frame by its argument bytes (R172). -/
  | itemWrite (args : List Byte)
  /-- An ITEM_WRITE frame of item 16 with this value (R114). -/
  | opselWrite (value : Word32)
  /-- An ITEM_WRITE frame of item 17 with this value (R115). -/
  | wrselWrite (value : Word32)
  /-- An ITEM_WRITE frame of one of items 1 to 9 with this value (R116). -/
  | profileFieldWrite (field : ProfileField) (value : Word32)
  /-- An ITEM_WRITE frame of item 18 with this value (R157). -/
  | alertEnableWrite (value : Word32)
  /-- An ITEM_WRITE frame of item 19 with this value (R152). -/
  | dlinkTimeoutWrite (value : Word32)
  | counterClear (args : List Byte)
  | resetReport (args : List Byte)
  | deviceReset (args : List Byte)
  deriving DecidableEq, Repr

end Sys2Proof
end

