-- ==== Sys2Proof/WellFormed.lean ====
section
/-! DEFINITION. When a command spells an event of its own row. -/

namespace Sys2Proof

/-- The command is one its own row describes: a message has at least one byte, a frame that names no
action names none, a frame error is one (or is a frame with no bit, R166 case 1), a RESULT frame has its
type byte, and an ITEM_WRITE frame of the right length names no item with a row of its own. -/
def Instr.wellFormed : Instr → Bool
  | .upstreamRequest msg => !msg.isEmpty
  | .downstreamAnswer msg => !msg.isEmpty
  | .resultFrame n => n != 0
  | .mgmtFrameError .fall => true
  | .mgmtFrameError (.rise bits) => bits.isEmpty || Machine.isFrameError bits
  | .unknownAction none args => args.isEmpty
  | .unknownAction (some c) _ => !Machine.namesAction c
  | .itemWrite args => !(args.length == 5 && Machine.itemHasOwnRow (args.headD 0#8))
  | .upstreamLinkReset | .upRstNRelease | .upstreamLinkUp | .drainEnd | .arbiterGrant _
  | .responseTimerExpiry | .dpReadyFall | .dpReadyRise | .dpRstPulseEnd | .downstreamLinkUp
  | .dpReqReadyRise _ | .migrationStart | .scrubIntervalExpiry | .decayExpiry | .powerOnReset
  | .powerOnResetEnd _ | .rstNFall | .deviceResetEnd _ | .remapLoad _ | .remapRead _ | .remapFind _
  | .spareStatus _ | .spareRetire _ | .suspectRead _ | .suspectClear _ | .candidateList _ | .lossRead _
  | .repairRequest _ | .repairCancel _ | .queueRead _ | .commit _ | .discard _ | .abort _
  | .migrationStatus _ | .scrubStart _ | .scrubStop _ | .scrubStatus _ | .gateOpen _ | .gateDrain _
  | .recover _ | .linkStatus _ | .alertIdentify _ | .itemRead _ | .opselWrite _ | .wrselWrite _
  | .profileFieldWrite _ _ | .alertEnableWrite _ | .dlinkTimeoutWrite _ | .counterClear _
  | .resetReport _ | .deviceReset _ => true

end Sys2Proof
end

