-- ==== Sys2Proof/Decode.lean ====
section
/-! DEFINITION. The table of the block gives no row any bits, so no word spells a command. -/

namespace Sys2Proof

/-- The command that a word spells by the bits spec/opcode_table.json gives its rows. No row of this
block gives bits ("fields": [] in every row, and no "fixed"), so no word spells one. -/
def decodeTableWord (_nbits _w : Nat) : Option Instr := none

end Sys2Proof
end

