-- ==== Sys2Proof/Machine/State.lean ====
section
/-! DEFINITION. The state of the RT2216, block by block, its value at power-on reset, and the reasons a step can stop. -/

namespace Sys2Proof.Machine

/-! ## Addresses and locations (chapter 1) -/

/-- A home row: a bank and a host-visible row (R4). The range of R2 is in the type. -/
structure HomeRow where
  bank : Fin 16
  row : Fin 65520
  deriving DecidableEq, Repr

/-- A location: a bank and a physical row (R4). -/
structure Location where
  bank : Fin 16
  row : Fin 65536
  deriving DecidableEq, Repr

/-! ## Remap table and spare pool (chapters 1 and 2) -/

/-- State of a remap entry with the spare fields that state has: Table 1-3 (R6) is in the type. -/
inductive EntryState where
  /-- The row is being copied to spare `next`; `current` is absent on a first migration. -/
  | moving (current : Option (Fin 16)) (next : Fin 16)
  /-- The copy is complete and awaits COMMIT or DISCARD. -/
  | held (current : Option (Fin 16)) (next : Fin 16)
  /-- The row's data lives in spare `current`. -/
  | active (current : Fin 16)
  deriving DecidableEq, Repr

/-- A remap entry (Table 1-2). -/
structure RemapEntry where
  home : HomeRow
  st : EntryState
  deriving DecidableEq, Repr

/-- State of a spare record (Table 2-1). -/
inductive SpareState where
  | free
  | assigned
  | retired
  deriving DecidableEq, Repr

/-- The spare pool (R28): 16 banks of 16 records, and one changed flag per bank. -/
structure SparePool where
  spares : Vector (Vector SpareState 16) 16
  changed : Vector Bool 16
  deriving DecidableEq, Repr

/-! ## Error monitor (chapter 3) -/

/-- Status of a downstream answer (Table 3-1). -/
inductive AnswerStatus where
  | ok
  | ce
  | ue
  deriving DecidableEq, Repr

/-- Origin of an attribution (Table 3-3). -/
inductive SuspectOrigin where
  | host
  | scrub
  deriving DecidableEq, Repr

/-- A suspect record (Table 3-3). -/
structure SuspectRecord where
  home : HomeRow
  ceCount : Nat
  ueCount : Nat
  pinned : Bool
  origin : SuspectOrigin
  deriving DecidableEq, Repr

/-- Origin of a loss (Table 3-5). -/
inductive LossOrigin where
  | scrub
  | copy
  deriving DecidableEq, Repr

/-- A loss record (Table 3-5). -/
structure LossRecord where
  home : HomeRow
  line : Fin 32
  origin : LossOrigin
  seq : BitVec 16
  deriving DecidableEq, Repr

/-- A running timer: the length it took at its start and the 1 µs ticks elapsed since then. A stopped
timer is `none` of an `Option Interval`. -/
structure Interval where
  length : Nat
  elapsed : Nat
  deriving DecidableEq, Repr

/-- The error monitor: suspect list with position 0 first (R45), loss list with the oldest first (R58). -/
structure ErrorMonitor where
  suspects : List SuspectRecord
  losses : List LossRecord
  lossSeq : BitVec 16
  decay : Option Interval
  deriving DecidableEq, Repr

/-! ## Migration engine (chapter 4) -/

/-- What a migration does at end of copy (Table 4-1). -/
inductive Mode where
  | autoCommit
  | hold
  deriving DecidableEq, Repr

/-- Who appended a repair request (Table 4-1). -/
inductive ReqOrigin where
  | auto
  | request
  deriving DecidableEq, Repr

/-- A repair request (Table 4-1). -/
structure RepairRequest where
  home : HomeRow
  mode : Mode
  origin : ReqOrigin
  deriving DecidableEq, Repr

/-- Phase of the line in hand (R74). -/
inductive CopyPhase where
  | wait
  | reading
  | writing
  deriving DecidableEq, Repr

/-- The copy request of Table 4-4's awaited request field. -/
inductive CopyRequest where
  | copyRead
  | copyWrite
  deriving DecidableEq, Repr

/-- The line buffer, 64 data bytes and the poison flag (Table 4-4). -/
structure LineBuffer where
  data : List Byte
  poison : Bool
  deriving DecidableEq, Repr

/-- The busy migration context (Table 4-4). -/
structure MigContext where
  slot : Fin 128
  home : HomeRow
  source : Location
  target : Fin 16
  mode : Mode
  origin : ReqOrigin
  cursor : Fin 33
  phase : CopyPhase
  awaited : CopyRequest
  buffer : Option LineBuffer
  overtaken : Bool
  lineRetries : Nat
  totalRetries : Nat
  poisoned : Nat
  deriving DecidableEq, Repr

/-- How a migration, or an attempt at one, ended (Table 4-7). -/
inductive MigOutcome where
  | committed
  | held
  | abortedCancelled
  | abortedContended
  | abortedDownstream
  | abortedReset
  | noSpare
  | noEntry
  deriving DecidableEq, Repr

/-- The last-outcome record (Table 4-7). -/
structure LastOutcome where
  home : HomeRow
  outcome : MigOutcome
  spare : Option (Fin 16)
  mode : Option Mode
  origin : Option ReqOrigin
  poisoned : Nat
  retries : Nat
  deriving DecidableEq, Repr

/-- The migration engine: repair queue with its head first (R66), context (R74), last outcome (R89). -/
structure MigEngine where
  queue : List RepairRequest
  ctx : Option MigContext
  last : Option LastOutcome
  deriving DecidableEq, Repr

/-! ## Patrol scrubber (chapter 5) -/

/-- Scrub mode (R96). -/
inductive ScrubMode where
  | continuous
  | single
  deriving DecidableEq, Repr

/-- Scrub state with the mode it holds: no mode in IDLE (R96). -/
inductive ScrubState where
  | idle
  | running (mode : ScrubMode)
  | paused (mode : ScrubMode)
  deriving DecidableEq, Repr

/-- Phase of the scrub line (Table 5-3). -/
inductive ScrubPhase where
  | awaitRead
  | reading
  | awaitWriteback
  | writingBack
  deriving DecidableEq, Repr

/-- The location and entry state recorded at the SCRUB_READ issue (Table 5-3); `active` is false for NONE. -/
structure Recorded where
  loc : Location
  active : Bool
  deriving DecidableEq, Repr

/-- The scrub line context (Table 5-3). -/
structure ScrubLine where
  phase : ScrubPhase
  line : Fin 33546240
  recorded : Option Recorded
  intervened : Bool
  buffer : Option (List Byte)
  deriving DecidableEq, Repr

/-- The patrol scrubber. -/
structure Scrubber where
  state : ScrubState
  cursor : Fin 33546240
  timer : Option Interval
  line : Option ScrubLine
  deriving DecidableEq, Repr

/-! ## Profile block (chapter 6) -/

/-- One policy profile (Table 6-1). -/
structure Profile where
  ceThreshold : Nat
  autoRepair : Bool
  commitMode : Mode
  retryLimit : Nat
  scrubInterval : Nat
  scrubWriteback : Bool
  decayInterval : Nat
  spareWatermark : Nat
  starvationLimit : Nat
  deriving DecidableEq, Repr

/-- The profile block (R113 to R115). -/
structure ProfileBlock where
  profiles : Vector Profile 2
  opsel : Fin 2
  wrsel : Fin 2
  deriving DecidableEq, Repr

/-! ## Upstream port (chapter 7) -/

/-- Upstream link state (R123). -/
inductive UpLink where
  | down
  | up
  deriving DecidableEq, Repr

/-- Traffic gate (R130). -/
inductive Gate where
  | closed
  | opened
  | draining
  deriving DecidableEq, Repr

/-- Last protocol error reason (R124). -/
inductive ProtocolError where
  | none
  | notUp
  | noCredit
  | tagInUse
  | badKind
  deriving DecidableEq, Repr

/-- Kind of a request (Tables 7-1 and 8-1). -/
inductive ReqKind where
  | read
  | write
  deriving DecidableEq, Repr

/-- A Host Request Table record (Table 7-4); its tag is its index in the table. `mask` and `data` are
zero and empty for a READ. -/
structure HostRecord where
  kind : ReqKind
  home : HomeRow
  line : Fin 32
  mask : BitVec 64
  data : List Byte
  legsIssued : Nat
  legsAnswered : Nat
  worst : AnswerStatus
  readData : Option (List Byte)
  orphan : Bool
  deriving DecidableEq, Repr

/-- The upstream port. -/
structure UpstreamPort where
  link : UpLink
  credits : Nat
  hrt : Vector (Option HostRecord) 64
  forward : List (Fin 64)
  gate : Gate
  lastError : ProtocolError
  deriving DecidableEq, Repr

/-! ## Downstream port (chapter 8) -/

/-- Downstream link state (R147). -/
inductive DownLink where
  | up
  | fault
  | retrain
  deriving DecidableEq, Repr

/-- Last fault reason (R148). -/
inductive FaultReason where
  | none
  | timeout
  | notReady
  | badAnswer
  deriving DecidableEq, Repr

/-- Name of a host leg (R13). -/
inductive Leg where
  | source
  | target
  deriving DecidableEq, Repr

/-- Owner of an issue FIFO entry (Table 8-3). -/
inductive Owner where
  | host (tag : Fin 64) (leg : Leg)
  | copy
  | scrub
  deriving DecidableEq, Repr

/-- An issue FIFO entry (Table 8-3). -/
structure FifoEntry where
  owner : Owner
  kind : ReqKind
  loc : Location
  line : Fin 32
  home : HomeRow
  orphan : Bool
  deriving DecidableEq, Repr

/-- The downstream port with its arbiter; issue FIFO oldest first (R139). The DP_RST_n pulse is in
progress, and the pin low, exactly while `pulse` is present. -/
structure DownstreamPort where
  link : DownLink
  pulse : Option Interval
  lastFault : FaultReason
  fifo : List FifoEntry
  timer : Option Interval
  timeout : Nat
  starvation : Nat
  deriving DecidableEq, Repr

/-! ## Alert controller (chapter 9) -/

/-- An alert cause (Table 9-1), highest priority first. -/
inductive Cause where
  | link
  | dataLoss
  | migration
  | candidate
  | spareLow
  | scrubPass
  deriving DecidableEq, Repr

/-- The alert controller. DATA_LOSS has no field: it is read from the loss list (R155). `enable` is the
value of ALERT_ENABLE, bit per cause as Table 11-8a. -/
structure AlertController where
  link : Bool
  migration : Bool
  candidate : Bool
  spareLow : Bool
  scrubPass : Bool
  enable : BitVec 6
  capture : Option Cause
  deriving DecidableEq, Repr

/-! ## Management port (chapter 10) -/

/-- Frame state of the management port (chapter 10, opening), with the frames that are not received told
apart (R165, R175). -/
inductive FrameState where
  /-- MG_CS_n is high. -/
  | idle
  /-- A frame is in progress whose MG_CS_n fell while no reset was in force, and no reset has started since. -/
  | receiving
  /-- MG_CS_n is low in a frame that is not received: it fell while a reset was in force, or a reset has
  started since, which abandons the frame. -/
  | ignored
  deriving DecidableEq, Repr

/-- Reason of a REFUSED result (Table 10-2). -/
inductive Reason where
  | state
  | duplicate
  | full
  | noSpare
  | noEntry
  | notFound
  | range
  | readOnly
  | empty
  deriving DecidableEq, Repr

/-- Status of a result with what that status carries (R169). NONE is not here: no command writes it. -/
inductive Reply where
  | done (payload : List Byte)
  | refused (reason : Reason)
  | badArg
  | badLength
  | badAction
  deriving DecidableEq, Repr

/-- A result (Table 10-2). -/
structure Result where
  reply : Reply
  seq : BitVec 8
  code : Byte
  overrun : Bool
  deriving DecidableEq, Repr

/-- The result buffer with its read state (R170). -/
inductive ResultBuffer where
  | empty
  | unread (result : Result)
  | read (result : Result)
  deriving DecidableEq, Repr

/-- The management port. -/
structure ManagementPort where
  frame : FrameState
  shift : List Byte
  buffer : ResultBuffer
  seq : BitVec 8
  deriving DecidableEq, Repr

/-- The 16 counters in the order of Table 10-4 and of items 48 to 63. -/
inductive Counter where
  | hostCe
  | hostUe
  | scrubCe
  | scrubUe
  | copyUe
  | copyRetries
  | wbDropped
  | skippedRows
  | suspectDrops
  | lossOverflow
  | protocolErrors
  | mgmtFrameErrors
  | dlinkFaults
  | migrationsCommitted
  | migrationsAborted
  | scrubPasses
  deriving DecidableEq, Repr

/-! ## Pins and resets -/

/-- Levels of the input pins that software or an event reads (Table 11-10). -/
structure Pins where
  rstN : Bool
  upRstN : Bool
  dpReady : Bool
  dpReqReady : Bool
  deriving DecidableEq, Repr

/-- Which reset of R174 and R175 is in force. -/
inductive ResetForce where
  | none
  | powerOn
  | device
  deriving DecidableEq, Repr

/-- Last reset kind (R176). -/
inductive ResetKind where
  | por
  | pin
  | action
  deriving DecidableEq, Repr

/-- The resets: which is in force, the hold of DEVICE_RESET from its action to the end of the reset, the last
kind, and whether the supplies are within their limits (R174). -/
structure ResetControl where
  force : ResetForce
  hold : Option Interval
  last : ResetKind
  supplies : Bool
  deriving DecidableEq, Repr

/-- The MODEL's own record of what has left the device, oldest first: whole upstream responses
(Table 11-2), whole downstream requests (Table 11-3), and the bits driven on MG_SDO in each frame received
(R165, R170). DESIGN CHOICE (log entry 9): a step answers a state only, so what it sends is kept here. -/
structure Wires where
  upTx : List (List Byte)
  dpTx : List (List Byte)
  mgTx : List (List Bool)
  deriving DecidableEq, Repr

/-- The state of the block, and the queue of commands that wait for it (first in, first out). -/
structure State where
  pins : Pins
  rst : ResetControl
  rmt : Vector (Option RemapEntry) 128
  spl : SparePool
  emn : ErrorMonitor
  mge : MigEngine
  psc : Scrubber
  prf : ProfileBlock
  up : UpstreamPort
  dp : DownstreamPort
  alc : AlertController
  mgp : ManagementPort
  counters : Vector (BitVec 32) 16
  wires : Wires
  pending : List Instr
  deriving DecidableEq, Repr

/-- Why the block stops. -/
inductive Fault where
  /-- Raised by MIGRATION_START alone: the head request's home row has a MOVING or HELD entry. R66 and
  R72 (check 1, "Does not fail") say this never happens, and give it no effect. Safe. -/
  | queuedRowInMigration
  deriving DecidableEq, Repr

/-- Why a command gets no meaning. -/
inductive Refusal where
  /-- No meaning yet for this row; raised by `exec` only. Safe. -/
  | notModelled (mnemonic : String)
  /-- The operand spells a command of another row: UNKNOWN_ACTION with a code that names an action, or
  MGMT_FRAME_ERROR with a frame R166 does not judge an error. Raised by those two meanings. Safe. -/
  | otherRow
  deriving DecidableEq, Repr

/-- The profile after reset: the defaults of Table 6-1 (R119). -/
def Profile.default : Profile where
  ceThreshold := 8
  autoRepair := false
  commitMode := .autoCommit
  retryLimit := 4
  scrubInterval := 100
  scrubWriteback := true
  decayInterval := 0
  spareWatermark := 2
  starvationLimit := 16

/-- The profile block after power-on and device reset (Table 6-3). -/
def ProfileBlock.default : ProfileBlock where
  profiles := Vector.replicate 2 Profile.default
  opsel := 0
  wrsel := 0

/-- The upstream port at power-on reset (Table 7-7). -/
def UpstreamPort.powerOn : UpstreamPort where
  link := .down
  credits := 0
  hrt := Vector.replicate 64 none
  forward := []
  gate := .closed
  lastError := .none

/-- The downstream port at power-on and device reset (Table 8-7): DP_RST_n goes low. -/
def DownstreamPort.powerOn : DownstreamPort where
  link := .retrain
  pulse := some ⟨Config.pulseLength, 0⟩
  lastFault := .none
  fifo := []
  timer := none
  timeout := Config.dlinkTimeoutDefault
  starvation := 0

/-- The alert controller at power-on reset (R162). -/
def AlertController.powerOn : AlertController where
  link := false
  migration := false
  candidate := false
  spareLow := false
  scrubPass := false
  enable := 0#6
  capture := none

/-- The management port at power-on and device reset (R176). -/
def ManagementPort.powerOn : ManagementPort where
  frame := .idle
  shift := []
  buffer := .empty
  seq := 0#8

/-- The machine at power-on reset, that reset in force (R174). The levels of the four input pins, and that
the supplies are not yet within their limits, are the model's (DESIGN CHOICE, log entry 4); every other field
is the spec's. -/
def State.reset : State where
  pins := { rstN := true, upRstN := true, dpReady := false, dpReqReady := false }
  rst := { force := .powerOn, hold := none, last := .por, supplies := false }
  rmt := Vector.replicate 128 none
  spl := { spares := Vector.replicate 16 (Vector.replicate 16 .free), changed := Vector.replicate 16 false }
  emn := { suspects := [], losses := [], lossSeq := 0#16, decay := none }
  mge := { queue := [], ctx := none, last := none }
  psc := { state := .idle, cursor := 0, timer := none, line := none }
  prf := ProfileBlock.default
  up := UpstreamPort.powerOn
  dp := DownstreamPort.powerOn
  alc := AlertController.powerOn
  mgp := ManagementPort.powerOn
  counters := Vector.replicate 16 0#32
  wires := { upTx := [], dpTx := [], mgTx := [] }
  pending := []

/-! ## Updates of one block -/

/-- The input pins replaced. -/
def State.setPins (s : State) (x : Pins) : State := { s with pins := x }
/-- The reset control replaced. -/
def State.setRst (s : State) (x : ResetControl) : State := { s with rst := x }
/-- The remap table replaced. -/
def State.setRmt (s : State) (x : Vector (Option RemapEntry) 128) : State := { s with rmt := x }
/-- The spare pool replaced. -/
def State.setSpl (s : State) (x : SparePool) : State := { s with spl := x }
/-- The error monitor replaced. -/
def State.setEmn (s : State) (x : ErrorMonitor) : State := { s with emn := x }
/-- The migration engine replaced. -/
def State.setMge (s : State) (x : MigEngine) : State := { s with mge := x }
/-- The patrol scrubber replaced. -/
def State.setPsc (s : State) (x : Scrubber) : State := { s with psc := x }
/-- The profile block replaced. -/
def State.setPrf (s : State) (x : ProfileBlock) : State := { s with prf := x }
/-- The upstream port replaced. -/
def State.setUp (s : State) (x : UpstreamPort) : State := { s with up := x }
/-- The downstream port replaced. -/
def State.setDp (s : State) (x : DownstreamPort) : State := { s with dp := x }
/-- The alert controller replaced. -/
def State.setAlc (s : State) (x : AlertController) : State := { s with alc := x }
/-- The management port replaced. -/
def State.setMgp (s : State) (x : ManagementPort) : State := { s with mgp := x }
/-- The counters replaced. -/
def State.setCounters (s : State) (x : Vector (BitVec 32) 16) : State := { s with counters := x }
/-- The record of what was sent replaced. -/
def State.setWires (s : State) (x : Wires) : State := { s with wires := x }

end Sys2Proof.Machine
end

