-- ==== Sys2Proof/Machine/Formats.lean ====
section
/-! DEFINITION. Messages of the request links and payloads of the results, byte by byte (chapter 11). -/

namespace Sys2Proof.Machine

/-! ## Enumerated codes (Tables 11-2, 11-6, 11-8b) -/

/-- Host response statuses (Table 7-2). -/
inductive HostStatus where
  | ok
  | corrected
  | poison
  | range
  | refused
  | failed
  deriving DecidableEq, Repr

def HostStatus.code : HostStatus → Byte
  | .ok => 0#8
  | .corrected => 1#8
  | .poison => 2#8
  | .range => 3#8
  | .refused => 4#8
  | .failed => 5#8

/-- Reason code of a REFUSED result (Table 11-6). -/
def Reason.code : Reason → Byte
  | .state => 1#8
  | .duplicate => 2#8
  | .full => 3#8
  | .noSpare => 4#8
  | .noEntry => 5#8
  | .notFound => 6#8
  | .range => 7#8
  | .readOnly => 8#8
  | .empty => 9#8

/-- Status byte of a result: bits 7–4 status, bits 3–0 reason, 0 with every status but REFUSED (Tables 11-5, 11-6). -/
def Reply.statusByte : Reply → Byte
  | .done _ => 0x10#8
  | .refused r => 0x20#8 + r.code
  | .badArg => 0x30#8
  | .badLength => 0x40#8
  | .badAction => 0x50#8

/-- Payload of a result: present with DONE only (Table 10-2). -/
def Reply.payload : Reply → List Byte
  | .done p => p
  | _ => []

def Mode.code : Mode → Byte
  | .autoCommit => 0#8
  | .hold => 1#8

def ReqOrigin.code : ReqOrigin → Byte
  | .auto => 0#8
  | .request => 1#8

def SuspectOrigin.code : SuspectOrigin → Byte
  | .host => 0#8
  | .scrub => 1#8

def LossOrigin.code : LossOrigin → Byte
  | .scrub => 0#8
  | .copy => 1#8

def CopyPhase.code : CopyPhase → Byte
  | .wait => 0#8
  | .reading => 1#8
  | .writing => 2#8

def CopyRequest.code : CopyRequest → Byte
  | .copyRead => 0#8
  | .copyWrite => 1#8

def MigOutcome.code : MigOutcome → Byte
  | .committed => 1#8
  | .held => 2#8
  | .abortedCancelled => 3#8
  | .abortedContended => 4#8
  | .abortedDownstream => 5#8
  | .abortedReset => 6#8
  | .noSpare => 7#8
  | .noEntry => 8#8

def EntryState.code : EntryState → Byte
  | .moving _ _ => 1#8
  | .held _ _ => 2#8
  | .active _ => 3#8

def ScrubState.code : ScrubState → Byte
  | .idle => 0#8
  | .running _ => 1#8
  | .paused _ => 2#8

def ScrubMode.code : ScrubMode → Byte
  | .continuous => 0#8
  | .single => 1#8

def ScrubPhase.code : ScrubPhase → Byte
  | .awaitRead => 0#8
  | .reading => 1#8
  | .awaitWriteback => 2#8
  | .writingBack => 3#8

def Gate.code : Gate → Byte
  | .closed => 0#8
  | .opened => 1#8
  | .draining => 2#8

def UpLink.code : UpLink → Byte
  | .down => 0#8
  | .up => 1#8

def DownLink.code : DownLink → Byte
  | .up => 0#8
  | .fault => 1#8
  | .retrain => 2#8

def FaultReason.code : FaultReason → Byte
  | .none => 0#8
  | .timeout => 1#8
  | .notReady => 2#8
  | .badAnswer => 3#8

def ProtocolError.code : ProtocolError → Byte
  | .none => 0#8
  | .notUp => 1#8
  | .noCredit => 2#8
  | .tagInUse => 3#8
  | .badKind => 4#8

def ResetKind.code : ResetKind → Byte
  | .por => 0#8
  | .pin => 1#8
  | .action => 2#8

/-- The code of a field, or 255 where the field is absent (R180). -/
def orAbsent (x : Option Byte) : Byte := x.getD 255#8

/-! ## Address division (R1, R2) and line numbering (R3, R97) -/

/-- The home row and line index a 40-bit host address names, or none where R2 calls it out of range. -/
def homeOfAddress (a : Nat) : Option (HomeRow × Fin 32) :=
  if h : a / 2147483648 = 0 ∧ a / 32768 % 65536 < 65520 then
    some (⟨Fin.ofNat 16 (a / 2048), ⟨a / 32768 % 65536, h.2⟩⟩, Fin.ofNat 32 (a / 64))
  else none

/-- The home row that holds a host-visible line (R3, R97). -/
def rowOfLine (c : Fin 33546240) : HomeRow :=
  ⟨Fin.ofNat 16 (c.val / 32), ⟨c.val / 512, by omega⟩⟩

/-- The line index of a host-visible line within its row (R3). -/
def indexOfLine (c : Fin 33546240) : Fin 32 := Fin.ofNat 32 c.val

/-- A home row's own location (R4). -/
def HomeRow.loc (h : HomeRow) : Location := ⟨h.bank, ⟨h.row.val, by omega⟩⟩

/-- The location of spare index `s` of a bank: physical row 65520 + s (R4, R28). -/
def spareLoc (bank : Fin 16) (s : Fin 16) : Location := ⟨bank, ⟨65520 + s.val, by omega⟩⟩

/-! ## Request link messages (Tables 11-1 to 11-4, R178) -/

/-- Tag of an upstream request: bits 5–0 of byte 0; none where the message has no byte. -/
def requestTag (msg : List Byte) : Option (Fin 64) := msg.head?.map fun b => Fin.ofNat 64 b.toNat

/-- Kind of an upstream request, or none where the request is malformed (R178). -/
def requestKind (msg : List Byte) : Option ReqKind :=
  match msg with
  | [] => none
  | b :: _ =>
    if b.toNat / 64 = 1 ∧ msg.length = 6 then some .read
    else if b.toNat / 64 = 2 ∧ msg.length = 78 then some .write
    else none

/-- The 40-bit address of an upstream request (bytes 1 to 5). -/
def requestAddress (msg : List Byte) : Nat := beNat ((msg.drop 1).take 5)

/-- The byte mask of an upstream WRITE (bytes 6 to 13). -/
def requestMask (msg : List Byte) : BitVec 64 := BitVec.ofNat 64 (beNat ((msg.drop 6).take 8))

/-- The data of an upstream WRITE (bytes 14 to 77). -/
def requestData (msg : List Byte) : List Byte := (msg.drop 14).take 64

/-- An upstream response (Table 11-2): 66 bytes with data, 2 without. -/
def responseBytes (tag : Fin 64) (status : HostStatus) (data : List Byte) : List Byte :=
  byte tag.val :: status.code :: data

/-- The mask of a full-line write. -/
def fullMask : BitVec 64 := BitVec.allOnes 64

/-- A downstream READ request (Table 11-3), 4 bytes. -/
def readRequestBytes (loc : Location) (line : Fin 32) : List Byte :=
  byte loc.bank.val :: be16 loc.row.val ++ [byte line.val]

/-- A downstream WRITE request (Table 11-3), 76 bytes. -/
def writeRequestBytes (loc : Location) (line : Fin 32) (mask : BitVec 64) (data : List Byte) (poison : Bool) :
    List Byte :=
  byte (128 + cond poison 64 0 + loc.bank.val) :: be16 loc.row.val ++ byte line.val :: be64 mask ++ data

/-- The status a status byte of an answer holds (Table 11-4). -/
def answerStatus (b : Byte) : Option AnswerStatus :=
  match b.toNat with
  | 0 => some .ok
  | 1 => some .ce
  | 2 => some .ue
  | _ => none

/-- Length of an answer's data: 64 bytes for a READ answered OK or CE, none otherwise (R138, Table 11-4). -/
def answerDataLength (kind : ReqKind) (st : AnswerStatus) : Nat :=
  match kind, st with
  | .read, .ok => 64
  | .read, .ce => 64
  | .read, .ue => 0
  | .write, _ => 0

/-- The status and data of an answer that fits an entry of this kind, or none where it does not fit (R138, R178). -/
def fitAnswer (kind : ReqKind) (msg : List Byte) : Option (AnswerStatus × List Byte) :=
  match msg with
  | [] => none
  | b :: data =>
    match answerStatus b with
    | none => none
    | some st => if data.length = answerDataLength kind st then some (st, data) else none

/-! ## Record payloads (Table 11-8) -/

def HomeRow.bytes (h : HomeRow) : List Byte := byte h.bank.val :: be16 h.row.val

/-- The current spare of an entry, where present (Table 1-3). -/
def EntryState.current : EntryState → Option (Fin 16)
  | .moving c _ => c
  | .held c _ => c
  | .active c => some c

/-- The next spare of an entry, where present (Table 1-3). -/
def EntryState.next : EntryState → Option (Fin 16)
  | .moving _ n => some n
  | .held _ n => some n
  | .active _ => none

def spareByte (x : Option (Fin 16)) : Byte := orAbsent (x.map fun s => byte s.val)

/-- Remap entry payload, 7 bytes (R24, Table 11-8). -/
def remapPayload (slot : Fin 128) (e : RemapEntry) : List Byte :=
  byte slot.val :: e.home.bytes ++ [e.st.code, spareByte e.st.current, spareByte e.st.next]

/-- Suspect record payload, 8 bytes (R61, Table 11-8). -/
def suspectPayload (position : Nat) (r : SuspectRecord) : List Byte :=
  byte position :: r.home.bytes ++ [byte r.ceCount, byte r.ueCount, flagByte r.pinned, r.origin.code]

/-- Loss record payload, 7 bytes (R60, Table 11-8). -/
def lossPayload (r : LossRecord) : List Byte :=
  r.home.bytes ++ [byte r.line.val, r.origin.code] ++ be16 r.seq.toNat

/-- Queue record payload, 5 bytes (R70, Table 11-8). -/
def queuePayload (r : RepairRequest) : List Byte := r.home.bytes ++ [r.mode.code, r.origin.code]

/-- Context part of the migration status, bytes 0 to 17 (R91); all zero while idle (R180). -/
def contextPayload : Option MigContext → List Byte
  | none => List.replicate 18 0#8
  | some c =>
    [1#8, byte c.slot.val] ++ c.home.bytes ++ be16 c.source.row.val ++
      [byte c.target.val, c.mode.code, c.origin.code, byte c.cursor.val, c.phase.code, c.awaited.code,
        flagByte c.overtaken, byte c.lineRetries] ++
      be16 c.totalRetries ++ [byte c.poisoned]

/-- Outcome part of the migration status, bytes 18 to 28 (R91); all zero while absent (R180). -/
def outcomePayload : Option LastOutcome → List Byte
  | none => List.replicate 11 0#8
  | some o =>
    [1#8] ++ o.home.bytes ++
      [o.outcome.code, spareByte o.spare, orAbsent (o.mode.map Mode.code), orAbsent (o.origin.map ReqOrigin.code),
        byte o.poisoned] ++
      be16 o.retries

/-- Mode of the scrubber, 255 in IDLE (R180). -/
def scrubModeByte : ScrubState → Byte
  | .idle => 255#8
  | .running m => m.code
  | .paused m => m.code

/-- Phase of the scrub line, 255 where there is none (R180). -/
def scrubPhaseByte (line : Option ScrubLine) : Byte := orAbsent (line.map fun l => l.phase.code)

/-- A scrub cursor in four bytes (Table 11-7). -/
def cursorBytes (c : Fin 33546240) : List Byte := be32 (BitVec.ofNat 32 c.val)

/-! ## Result frame (Table 11-5, R170) -/

/-- The header and payload a RESULT frame shifts out from its second byte on; an EMPTY buffer gives the
header of status NONE, all zero. -/
def resultBytes : ResultBuffer → List Byte
  | .empty => List.replicate 5 0#8
  | .unread r | .read r =>
    [r.reply.statusByte, r.seq, r.code, flagByte r.overrun, byte r.reply.payload.length] ++ r.reply.payload

/-- The bytes a RESULT frame of `n` bytes shifts out: zeros while the type byte is sampled, the buffer,
then zeros to the end of the frame (R165, R170). -/
def sdoBytes (b : ResultBuffer) (n : Nat) : List Byte :=
  (0#8 :: resultBytes b ++ List.replicate n 0#8).take n

/-- The bits a RESULT frame of `n` bits shifts out, bit 7 of each byte first (R165). -/
def sdoBits (b : ResultBuffer) (n : Nat) : List Bool :=
  ((sdoBytes b (n / 8 + 1)).flatMap byteBits).take n

/-- The bits a COMMAND frame of `n` bits shifts out: zeros (R165). -/
def zeroBits (n : Nat) : List Bool := List.replicate n false

/-- The bits that frame number `frame` shifts out while `bits` are sampled (R165): zeros in the first byte,
then what its type says. For an unknown type the spec says nothing after the first byte, and the bits are
free (log entry 16). -/
def frameBits (b : ResultBuffer) (frame : Nat) (bits : List Bool) : List Bool :=
  if bits.length ≤ 8 ∨ firstByte bits = Config.frameCommand then zeroBits bits.length
  else if firstByte bits = Config.frameResult then sdoBits b bits.length
  else zeroBits 8 ++ (List.range (bits.length - 8)).map (Config.unknownFrameBit frame)

end Sys2Proof.Machine
end

