-- ==== Sys2Proof/Machine/Flags.lean ====
section
/-! DEFINITION. The alert causes and their capture (chapter 9), the output pins, and the counters. -/

namespace Sys2Proof.Machine

/-! ## Counters (R173) -/

/-- Place of a counter: item number less 48 (Table 11-9). -/
def Counter.index : Counter → Fin 16
  | .hostCe => 0
  | .hostUe => 1
  | .scrubCe => 2
  | .scrubUe => 3
  | .copyUe => 4
  | .copyRetries => 5
  | .wbDropped => 6
  | .skippedRows => 7
  | .suspectDrops => 8
  | .lossOverflow => 9
  | .protocolErrors => 10
  | .mgmtFrameErrors => 11
  | .dlinkFaults => 12
  | .migrationsCommitted => 13
  | .migrationsAborted => 14
  | .scrubPasses => 15

/-- An increase of a 32-bit saturating counter (R173). -/
def satInc (x : BitVec 32) : BitVec 32 := if x = BitVec.allOnes 32 then x else x + 1#32

/-- The value of a counter. -/
def State.counter (s : State) (c : Counter) : BitVec 32 := s.counters[c.index]

/-- Increase of a counter by 1, saturating (R173). -/
def State.bump (s : State) (c : Counter) : State :=
  s.setCounters (s.counters.set c.index (satInc (s.counter c)))

/-! ## Alert causes (R154 to R161) -/

/-- Bit of a cause in the pending and enable sets (Table 11-8a). -/
def Cause.bit : Cause → Nat
  | .link => 0
  | .dataLoss => 1
  | .migration => 2
  | .candidate => 3
  | .spareLow => 4
  | .scrubPass => 5

/-- Whether a cause is pending; DATA_LOSS follows the loss list (R154, R155). -/
def State.isPending (s : State) : Cause → Bool
  | .link => s.alc.link
  | .dataLoss => !s.emn.losses.isEmpty
  | .migration => s.alc.migration
  | .candidate => s.alc.candidate
  | .spareLow => s.alc.spareLow
  | .scrubPass => s.alc.scrubPass

/-- Whether a cause is in the enable set (R157). -/
def State.isEnabled (s : State) (c : Cause) : Bool := s.alc.enable.getLsbD c.bit

/-- The pending state of a cause set or cleared; DATA_LOSS has none of its own (R155). -/
def AlertController.put (a : AlertController) (c : Cause) (v : Bool) : AlertController :=
  match c with
  | .link => { a with link := v }
  | .dataLoss => a
  | .migration => { a with migration := v }
  | .candidate => { a with candidate := v }
  | .spareLow => { a with spareLow := v }
  | .scrubPass => { a with scrubPass := v }

/-- A raise: the cause becomes pending, the capture stands (R154, R160). -/
def State.raise (s : State) (c : Cause) : State := s.setAlc (s.alc.put c true)

/-- The capture released where it names the cause (R161). -/
def AlertController.release (a : AlertController) (c : Cause) : AlertController :=
  if a.capture = some c then { a with capture := none } else a

/-- A clearing action of a cause with its release of the capture (R156, R161). -/
def State.clearCause (s : State) (c : Cause) : State := s.setAlc ((s.alc.put c false).release c)

/-- The causes, highest priority first (Table 9-1). -/
def Cause.all : List Cause := [.link, .dataLoss, .migration, .candidate, .spareLow, .scrubPass]

/-- The enabled pending cause of highest priority (R159). -/
def State.topCause (s : State) : Option Cause :=
  Cause.all.find? fun c => s.isPending c && s.isEnabled c

/-- The pending set as the byte of Table 11-8a (R180). -/
def State.pendingByte (s : State) : Byte :=
  byte ((Cause.all.filter s.isPending).foldl (fun acc c => acc + 2 ^ c.bit) 0)

/-- The captured cause as its priority number, 0 for NONE (R180). -/
def captureByte : Option Cause → Byte
  | none => 0#8
  | some c => byte (c.bit + 1)

/-! ## Output pins -/

/-- ALERT_n, true while released: low exactly while an enabled cause is pending (R158). -/
def State.alertN (s : State) : Bool := s.topCause.isNone

/-- UP_READY: high while the upstream link is UP (R123). -/
def State.upReady (s : State) : Bool := s.up.link == .up

/-- DP_RST_n: low while the reset pulse is in progress (R147). -/
def State.dpRstN (s : State) : Bool := s.dp.pulse.isNone

/-- MG_SDO is released to high impedance while MG_CS_n is high (R165). -/
def State.mgSdoReleased (s : State) : Bool := s.mgp.frame == .idle

/-- Whether a power-on or device reset is in force (R174, R175). -/
def State.inReset (s : State) : Bool := s.rst.force != .none

end Sys2Proof.Machine
end

