-- ==== Sys2Proof/Machine/Ops.lean ====
section
/-! DEFINITION. Shared operations on the tables: profiles and timers, remap table and spare pool, suspect and loss lists, repair queue. -/

namespace Sys2Proof.Machine

/-! ## Operating profile and timers (chapter 6, R52, R98, R146) -/

/-- The operating profile, the one OPSEL names (R114). -/
def State.operating (s : State) : Profile := s.prf.profiles[s.prf.opsel]

/-- A timer started from zero with this length in 1 µs ticks. -/
def startTimer (length : Nat) : Option Interval := some ⟨length, 0⟩

/-- Whether a timer runs and has run its length: only then does it expire (R146, R52, R98, R147). -/
def isDue (t : Option Interval) : Bool := t.any fun t => t.length ≤ t.elapsed

/-- The decay timer started from zero with an interval in seconds; 0 stops it (R52). -/
def decayTimer (seconds : Nat) : Option Interval :=
  if seconds = 0 then none else startTimer (seconds * Config.ticksPerSecond)

/-- The decay timer started, or stopped, by the operating decay_interval (R52). -/
def State.startDecay (s : State) : State :=
  s.setEmn { s.emn with decay := decayTimer s.operating.decayInterval }

/-- R52's answer to a write of the profile block: the timer restarts or stops where the operating value
differs from `old`, and runs on undisturbed where it does not. -/
def State.retimeDecay (s : State) (old : Nat) : State :=
  if s.operating.decayInterval = old then s else s.startDecay

/-! ## Remap table (chapter 1) -/

/-- Whether an entry is MOVING or HELD. -/
def EntryState.isMigrating : EntryState → Bool
  | .moving _ _ => true
  | .held _ _ => true
  | .active _ => false

/-- Whether an entry is MOVING. -/
def EntryState.isMoving : EntryState → Bool
  | .moving _ _ => true
  | _ => false

/-- Whether an entry is HELD. -/
def EntryState.isHeld : EntryState → Bool
  | .held _ _ => true
  | _ => false

/-- The slot whose entry has this home row (R9). -/
def State.slotOf (s : State) (h : HomeRow) : Option (Fin 128) :=
  (List.finRange 128).find? fun i => (s.rmt[i]).any fun e => e.home == h

/-- The entry of a home row, by the lookup of R9. -/
def State.entryOf (s : State) (h : HomeRow) : Option RemapEntry := (s.slotOf h).bind fun i => s.rmt[i]

/-- The lowest-numbered empty slot (R8). -/
def State.emptySlot (s : State) : Option (Fin 128) :=
  (List.finRange 128).find? fun i => (s.rmt[i]).isNone

/-- The current location of a home row (R11). -/
def State.currentLoc (s : State) (h : HomeRow) : Location :=
  match (s.entryOf h).bind fun e => e.st.current with
  | some c => spareLoc h.bank c
  | none => h.loc

/-- Whether the row's entry is MOVING or HELD. -/
def State.rowMigrating (s : State) (h : HomeRow) : Bool := (s.entryOf h).any fun e => e.st.isMigrating

/-- One slot of the table replaced. -/
def State.putSlot (s : State) (i : Fin 128) (e : Option RemapEntry) : State := s.setRmt (s.rmt.set i e)

/-- Number of HELD entries (R26). -/
def State.heldCount (s : State) : Nat :=
  (List.finRange 128).countP fun i => (s.rmt[i]).any fun e => e.st.isHeld

/-! ## Spare pool (chapter 2) -/

/-- State of a spare record (R28). -/
def State.spare (s : State) (bank idx : Fin 16) : SpareState := (s.spl.spares[bank])[idx]

/-- A change of a spare's state: the bank's changed flag is set with it (R36). -/
def State.putSpare (s : State) (bank idx : Fin 16) (x : SpareState) : State :=
  s.setSpl
    { spares := s.spl.spares.set bank ((s.spl.spares[bank]).set idx x)
      changed := s.spl.changed.set bank true }

/-- Number of a bank's spares in one state (R29). -/
def State.spareCount (s : State) (bank : Fin 16) (x : SpareState) : Nat :=
  (List.finRange 16).countP fun i => s.spare bank i == x

/-- The lowest FREE spare of a bank (R30). -/
def State.lowestFree (s : State) (bank : Fin 16) : Option (Fin 16) :=
  (List.finRange 16).find? fun i => s.spare bank i == .free

/-- FREE spares across all banks (R38). -/
def State.freeTotal (s : State) : Nat := ((List.finRange 16).map fun b => s.spareCount b .free).sum

/-- The watermark check made after an allocation in a bank (R31). -/
def State.checkWatermark (s : State) (bank : Fin 16) : State :=
  if s.spareCount bank .free < s.operating.spareWatermark then s.raise .spareLow else s

/-! ## Suspect list (section 3.2) -/

/-- The record of a home row (R45: at most one). -/
def State.suspectOf (s : State) (h : HomeRow) : Option SuspectRecord :=
  s.emn.suspects.find? fun r => r.home == h

/-- The suspect list replaced. -/
def State.putSuspects (s : State) (l : List SuspectRecord) : State := s.setEmn { s.emn with suspects := l }

/-- Removal of a home row's record; the records behind it move forward (R45, R55). -/
def State.dropSuspect (s : State) (h : HomeRow) : State :=
  s.putSuspects (s.emn.suspects.filter fun r => r.home != h)

/-- The record of a home row unpinned, its counts and position kept (R56). -/
def State.unpin (s : State) (h : HomeRow) : State :=
  s.putSuspects (s.emn.suspects.map fun r => if r.home = h then { r with pinned := false } else r)

/-- The list less its unpinned record of highest position, or none where all are pinned (R48). -/
def evictUnpinned : List SuspectRecord → Option (List SuspectRecord)
  | [] => none
  | r :: rs =>
    match evictUnpinned rs with
    | some rs' => some (r :: rs')
    | none => if r.pinned then none else some rs

/-- A record with one more CE or UE attributed to it (R46): ce_count saturates at 255, ue_count at 15. -/
def SuspectRecord.add (r : SuspectRecord) (ue : Bool) (origin : SuspectOrigin) : SuspectRecord :=
  if ue then { r with ueCount := min 15 (r.ueCount + 1), origin := origin }
  else { r with ceCount := min 255 (r.ceCount + 1), origin := origin }

/-- The record a first attribution makes (R47). -/
def SuspectRecord.fresh (h : HomeRow) (ue : Bool) (origin : SuspectOrigin) : SuspectRecord where
  home := h
  ceCount := if ue then 0 else 1
  ueCount := if ue then 1 else 0
  pinned := false
  origin := origin

/-- The condition of the pin check (R49). -/
def SuspectRecord.meets (r : SuspectRecord) (threshold : Nat) : Bool :=
  threshold ≤ r.ceCount || 1 ≤ r.ueCount

/-- Whether a home row has a request in the repair queue. -/
def State.isQueued (s : State) (h : HomeRow) : Bool := s.mge.queue.any fun q => q.home == h

/-- The repair queue replaced. -/
def State.putQueue (s : State) (q : List RepairRequest) : State := s.setMge { s.mge with queue := q }

/-- A candidate event, by the first case of Table 3-4 that applies (R50, R51, R67). -/
def State.candidateEvent (s : State) (h : HomeRow) : State :=
  if s.rowMigrating h || s.isQueued h then s
  else if s.operating.autoRepair && s.mge.queue.length < Config.queueCapacity then
    s.putQueue (s.mge.queue ++ [⟨h, s.operating.commitMode, .auto⟩])
  else s.raise .candidate

/-- A record put at position 0 before the records `rest`, with the pin check made on it (R49). -/
def State.insertSuspect (s : State) (r : SuspectRecord) (rest : List SuspectRecord) : State :=
  if !r.pinned && r.meets s.operating.ceThreshold then
    (s.putSuspects ({ r with pinned := true } :: rest)).candidateEvent r.home
  else s.putSuspects (r :: rest)

/-- A suspect update (R46 to R48). -/
def State.suspectUpdate (s : State) (h : HomeRow) (ue : Bool) (origin : SuspectOrigin) : State :=
  match s.suspectOf h with
  | some r => s.insertSuspect (r.add ue origin) (s.emn.suspects.filter fun x => x.home != h)
  | none =>
    if s.emn.suspects.length < Config.suspectCapacity then
      s.insertSuspect (.fresh h ue origin) s.emn.suspects
    else
      match evictUnpinned s.emn.suspects with
      | some rest => s.insertSuspect (.fresh h ue origin) rest
      | none => s.bump .suspectDrops

/-- One unpinned record after a decay expiry (R53); a pinned record is not changed. -/
def SuspectRecord.decay (r : SuspectRecord) : SuspectRecord :=
  if r.pinned then r else { r with ceCount := r.ceCount / 2 }

/-- Whether a decayed record stays: pinned, or with a count left (R53). -/
def SuspectRecord.stays (r : SuspectRecord) : Bool := r.pinned || r.ceCount != 0 || r.ueCount != 0

/-! ## Loss list (section 3.5) -/

/-- A loss (R58): stored where the list has room, else counted; the sequence number advances either way. -/
def State.addLoss (s : State) (h : HomeRow) (line : Fin 32) (origin : LossOrigin) : State :=
  if s.emn.losses.length < Config.lossCapacity then
    s.setEmn
      { s.emn with
        losses := s.emn.losses ++ [⟨h, line, origin, s.emn.lossSeq⟩]
        lossSeq := s.emn.lossSeq + 1#16 }
  else (s.bump .lossOverflow).setEmn { s.emn with lossSeq := s.emn.lossSeq + 1#16 }

/-! ## Attribution (R42) -/

/-- Attribution of an answer to a HOST leg (Table 3-2). -/
def State.attributeHost (s : State) (h : HomeRow) (st : AnswerStatus) : State :=
  match st with
  | .ok => s
  | .ce => (s.bump .hostCe).suspectUpdate h false .host
  | .ue => (s.bump .hostUe).suspectUpdate h true .host

/-- Attribution of an answer to a SCRUB_READ (Table 3-2). -/
def State.attributeScrub (s : State) (h : HomeRow) (line : Fin 32) (st : AnswerStatus) : State :=
  match st with
  | .ok => s
  | .ce => (s.bump .scrubCe).suspectUpdate h false .scrub
  | .ue => ((s.bump .scrubUe).suspectUpdate h true .scrub).addLoss h line .scrub

/-! ## Commit and rollback of an entry (R20, R21) -/

/-- The current and next spares of a MOVING or HELD entry. -/
def EntryState.migration : EntryState → Option (Option (Fin 16) × Fin 16)
  | .moving c n => some (c, n)
  | .held c n => some (c, n)
  | .active _ => none

/-- An entry's old current spare, where present, becomes RETIRED (R34). -/
def State.retireOld (s : State) (bank : Fin 16) (old : Option (Fin 16)) : State :=
  match old with
  | some c => s.putSpare bank c .retired
  | none => s

/-- Commit of the MOVING or HELD entry in a slot (R20), with the removal of the row's suspect record (R55). -/
def State.commitSlot (s : State) (i : Fin 128) : State :=
  match s.rmt[i] with
  | none => s
  | some e =>
    match e.st.migration with
    | none => s
    | some (cur, nx) =>
      ((s.putSlot i (some ⟨e.home, .active nx⟩)).retireOld e.home.bank cur).dropSuspect e.home

/-- Rollback of the MOVING or HELD entry in a slot (R21), freeing its next spare (R33) and unpinning the
row's suspect record (R56). -/
def State.rollbackSlot (s : State) (i : Fin 128) : State :=
  match s.rmt[i] with
  | none => s
  | some e =>
    match e.st.migration with
    | none => s
    | some (cur, nx) =>
      ((s.putSlot i (cur.map fun c => ⟨e.home, .active c⟩)).putSpare e.home.bank nx .free).unpin e.home

end Sys2Proof.Machine
end

