-- ==== Sys2Proof/Machine/Clock.lean ====
section
/-! DEFINITION. One tick of 1 µs (00_scope.md, Time): the timers that run advance, and the events that fall due join the queue. -/

namespace Sys2Proof.Machine

/-- A timer one tick later; one that has run its length waits for its event. -/
def Interval.tick (t : Interval) : Interval := { t with elapsed := min t.length (t.elapsed + 1) }

/-- The timers one tick later. While a reset is in force no timer runs (R174, R175) but the DP_RST_n pulse
and the hold of DEVICE_RESET, which the reset itself measures (R147, R175). -/
def State.advance (s : State) : State :=
  let pulse := s.dp.pulse.map Interval.tick
  let s₁ := s.setRst { s.rst with hold := s.rst.hold.map Interval.tick }
  if s.inReset then s₁.setDp { s.dp with pulse := pulse }
  else
    ((s₁.setDp { s.dp with pulse := pulse, timer := s.dp.timer.map Interval.tick }).setPsc
        { s.psc with timer := s.psc.timer.map Interval.tick }).setEmn
      { s.emn with decay := s.emn.decay.map Interval.tick }

/-- The events due in a state, in the order in which they join the queue (log entry 3). -/
def State.dueEvents (s : State) : List Instr :=
  (if s.inReset then []
    else
      (if isDue s.dp.timer then [.responseTimerExpiry] else []) ++
        (if isDue s.psc.timer then [.scrubIntervalExpiry] else []) ++
        (if isDue s.emn.decay then [.decayExpiry] else []) ++
        (if isDue s.dp.pulse then [.dpRstPulseEnd] else [])) ++
    (if s.rst.force = .device && isDue s.rst.hold && s.pins.rstN then [.deviceResetEnd false] else [])

/-- The queue replaced. -/
def State.setPending (s : State) (q : List Instr) : State := { s with pending := q }

/-- One tick of 1 µs (log entry 1). -/
def State.tick (s : State) : State := s.advance.setPending (s.pending ++ s.advance.dueEvents)

end Sys2Proof.Machine
end

