-- ==== Sys2Proof/Machine/Operands.lean ====
section
/-! DEFINITION. The 29 actions with their codes and argument lengths, and every argument form (Tables 11-7 to 11-9, R179). -/

namespace Sys2Proof.Machine

/-- The 29 actions (Table 11-7). -/
inductive Action where
  | remapLoad | remapRead | remapFind | spareStatus | spareRetire | suspectRead | suspectClear
  | candidateList | lossRead | repairRequest | repairCancel | queueRead | commit | discard | abort
  | migrationStatus | scrubStart | scrubStop | scrubStatus | gateOpen | gateDrain | recover | linkStatus
  | alertIdentify | itemRead | itemWrite | counterClear | resetReport | deviceReset
  deriving DecidableEq, Repr

/-- Action code (Table 11-7). -/
def Action.code : Action → Byte
  | .remapLoad => 1#8
  | .remapRead => 2#8
  | .remapFind => 3#8
  | .spareStatus => 4#8
  | .spareRetire => 5#8
  | .suspectRead => 6#8
  | .suspectClear => 7#8
  | .candidateList => 8#8
  | .lossRead => 9#8
  | .repairRequest => 10#8
  | .repairCancel => 11#8
  | .queueRead => 12#8
  | .commit => 13#8
  | .discard => 14#8
  | .abort => 15#8
  | .migrationStatus => 16#8
  | .scrubStart => 17#8
  | .scrubStop => 18#8
  | .scrubStatus => 19#8
  | .gateOpen => 20#8
  | .gateDrain => 21#8
  | .recover => 22#8
  | .linkStatus => 23#8
  | .alertIdentify => 24#8
  | .itemRead => 25#8
  | .itemWrite => 26#8
  | .counterClear => 27#8
  | .resetReport => 28#8
  | .deviceReset => 29#8

/-- Number of argument bytes (Table 11-7; R168 lists the actions with none). -/
def Action.argLength : Action → Nat
  | .remapLoad => 4
  | .remapRead => 1
  | .remapFind => 3
  | .spareRetire => 2
  | .suspectRead => 1
  | .suspectClear => 3
  | .repairRequest => 4
  | .repairCancel => 3
  | .commit => 3
  | .discard => 3
  | .scrubStart => 2
  | .itemRead => 1
  | .itemWrite => 5
  | .spareStatus | .candidateList | .lossRead | .queueRead | .abort | .migrationStatus | .scrubStop
  | .scrubStatus | .gateOpen | .gateDrain | .recover | .linkStatus | .alertIdentify | .counterClear
  | .resetReport | .deviceReset => 0

/-! ## Argument bytes (R179) -/

/-- Argument byte `i` as a number. -/
def arg (args : List Byte) (i : Nat) : Nat := (args.getD i 0#8).toNat

/-- The two argument bytes from `i` as a number (a row). -/
def arg16 (args : List Byte) (i : Nat) : Nat := arg args i * 256 + arg args (i + 1)

/-- The four argument bytes from `i` as an item value. -/
def arg32 (args : List Byte) (i : Nat) : Word32 :=
  BitVec.ofNat 32 (arg16 args i * 65536 + arg16 args (i + 2))

/-- A home row argument, or none beyond its range (R2: bank above 15, row of 65520 or greater). -/
def homeArg (bank row : Nat) : Option HomeRow :=
  if h : bank < 16 ∧ row < 65520 then some ⟨⟨bank, h.1⟩, ⟨row, h.2⟩⟩ else none

/-- The home row that argument bytes 0 to 2 name (bank, row). -/
def homeArgs (args : List Byte) : Option HomeRow := homeArg (arg args 0) (arg16 args 1)

/-- A bank or spare index argument, or none above 15 (R2). -/
def fin16Arg (n : Nat) : Option (Fin 16) := if h : n < 16 then some ⟨n, h⟩ else none

/-- A slot argument, or none above 127 (R24). -/
def slotArg (n : Nat) : Option (Fin 128) := if h : n < 128 then some ⟨n, h⟩ else none

/-- A mode argument (Table 11-8b), or none where the code names no mode (R68). -/
def modeArg : Nat → Option Mode
  | 0 => some .autoCommit
  | 1 => some .hold
  | _ => none

/-- The from argument of SCRUB_START (Table 11-8b): true for ZERO. -/
def fromArg : Nat → Option Bool
  | 0 => some false
  | 1 => some true
  | _ => none

/-- A scrub mode argument (Table 11-8b). -/
def scrubModeArg : Nat → Option ScrubMode
  | 0 => some .continuous
  | 1 => some .single
  | _ => none

/-! ## Items (Table 11-9) -/

/-- The eleven state items (Table 10-3). -/
inductive StateItem where
  | gate | upstreamLink | downstreamLink | scrubState | scrubCursor | migrationBusy | heldCount
  | queueLength | suspectCount | lossCount | freeSpares
  deriving DecidableEq, Repr

/-- An item (Table 10-3). -/
inductive Item where
  | field (f : ProfileField)
  | opsel
  | wrsel
  | alertEnable
  | dlinkTimeout
  | stateItem (i : StateItem)
  | counter (c : Counter)
  deriving DecidableEq, Repr

/-- The item a number names, or none (Table 11-9). -/
def itemOf : Nat → Option Item
  | 1 => some (.field .ceThreshold)
  | 2 => some (.field .autoRepair)
  | 3 => some (.field .commitMode)
  | 4 => some (.field .retryLimit)
  | 5 => some (.field .scrubInterval)
  | 6 => some (.field .scrubWriteback)
  | 7 => some (.field .decayInterval)
  | 8 => some (.field .spareWatermark)
  | 9 => some (.field .starvationLimit)
  | 16 => some .opsel
  | 17 => some .wrsel
  | 18 => some .alertEnable
  | 19 => some .dlinkTimeout
  | 32 => some (.stateItem .gate)
  | 33 => some (.stateItem .upstreamLink)
  | 34 => some (.stateItem .downstreamLink)
  | 35 => some (.stateItem .scrubState)
  | 36 => some (.stateItem .scrubCursor)
  | 37 => some (.stateItem .migrationBusy)
  | 38 => some (.stateItem .heldCount)
  | 39 => some (.stateItem .queueLength)
  | 40 => some (.stateItem .suspectCount)
  | 41 => some (.stateItem .lossCount)
  | 42 => some (.stateItem .freeSpares)
  | 48 => some (.counter .hostCe)
  | 49 => some (.counter .hostUe)
  | 50 => some (.counter .scrubCe)
  | 51 => some (.counter .scrubUe)
  | 52 => some (.counter .copyUe)
  | 53 => some (.counter .copyRetries)
  | 54 => some (.counter .wbDropped)
  | 55 => some (.counter .skippedRows)
  | 56 => some (.counter .suspectDrops)
  | 57 => some (.counter .lossOverflow)
  | 58 => some (.counter .protocolErrors)
  | 59 => some (.counter .mgmtFrameErrors)
  | 60 => some (.counter .dlinkFaults)
  | 61 => some (.counter .migrationsCommitted)
  | 62 => some (.counter .migrationsAborted)
  | 63 => some (.counter .scrubPasses)
  | _ => none

/-- Item number of a profile field (Table 11-9). -/
def fieldNumber : ProfileField → Byte
  | .ceThreshold => 1#8
  | .autoRepair => 2#8
  | .commitMode => 3#8
  | .retryLimit => 4#8
  | .scrubInterval => 5#8
  | .scrubWriteback => 6#8
  | .decayInterval => 7#8
  | .spareWatermark => 8#8
  | .starvationLimit => 9#8

end Sys2Proof.Machine
end

