-- ==== Sys2Proof/Machine/Engines.lean ====
section
/-! DEFINITION. Shared operations of the requesters: who presents to the arbiter, the copy protocol's decisions, and the scrub cursor. -/

namespace Sys2Proof.Machine

/-! ## Presenting and the starvation count (R75, R100, R127, R143) -/

def FifoEntry.isCopy (e : FifoEntry) : Bool := e.owner == .copy
def FifoEntry.isScrub (e : FifoEntry) : Bool := e.owner == .scrub

/-- The host requester presents while the forward queue is not empty (R127). -/
def State.hostPresents (s : State) : Bool := !s.up.forward.isEmpty

/-- The migration requester presents in phase WAIT, while the FIFO holds no COPY entry (R75). -/
def State.migPresents (s : State) : Bool :=
  (s.mge.ctx.any fun c => c.phase == .wait) && !s.dp.fifo.any FifoEntry.isCopy

/-- The scrub requester presents while a line awaits its read or write-back and the FIFO holds no SCRUB
entry (R100). -/
def State.scrubPresents (s : State) : Bool :=
  (s.psc.line.any fun l => l.phase == .awaitRead || l.phase == .awaitWriteback) &&
    !s.dp.fifo.any FifoEntry.isScrub

/-- Whether an internal requester presents (section 8.3). -/
def State.internalPresents (s : State) : Bool := s.migPresents || s.scrubPresents

/-- The starvation count replaced. -/
def State.putStarvation (s : State) (n : Nat) : State := s.setDp { s.dp with starvation := n }

/-- The count becomes 0 when no internal requester presents (R143). -/
def State.settleStarvation (s : State) : State :=
  if s.internalPresents then s else s.putStarvation 0

/-! ## Migration engine (chapter 4) -/

/-- The migration context replaced. -/
def State.putCtx (s : State) (c : Option MigContext) : State := s.setMge { s.mge with ctx := c }

/-- The last-outcome record written whole (R89). -/
def State.putLast (s : State) (o : LastOutcome) : State := s.setMge { s.mge with last := some o }

/-- The outcome record of a migration that had a context (Table 4-7). -/
def MigContext.outcome (c : MigContext) (o : MigOutcome) : LastOutcome where
  home := c.home
  outcome := o
  spare := some c.target
  mode := some c.mode
  origin := some c.origin
  poisoned := c.poisoned
  retries := c.totalRetries

/-- COPY entries of the FIFO orphaned (R85, R139). -/
def orphanCopies (fifo : List FifoEntry) : List FifoEntry :=
  fifo.map fun e => if e.isCopy then { e with orphan := true } else e

/-- SCRUB entries of the FIFO orphaned (R110, R139). -/
def orphanScrubs (fifo : List FifoEntry) : List FifoEntry :=
  fifo.map fun e => if e.isScrub then { e with orphan := true } else e

/-- The issue FIFO replaced, nothing else of the port touched. -/
def State.putFifo (s : State) (fifo : List FifoEntry) : State := s.setDp { s.dp with fifo := fifo }

/-- An abort of the migration in progress with this outcome; MIGRATION is raised where Table 4-6 says so (R85). -/
def State.abortMigration (s : State) (o : MigOutcome) (alert : Bool) : State :=
  match s.mge.ctx with
  | none => s
  | some c =>
    let s₁ := s.rollbackSlot c.slot
    let s₂ := (s₁.putFifo (orphanCopies s₁.dp.fifo)).putCtx none
    let s₃ := (s₂.putLast (c.outcome o)).bump .migrationsAborted
    (if alert then s₃.raise .migration else s₃).settleStarvation

/-- The context after a retry is allowed (R78). -/
def MigContext.retry (c : MigContext) : MigContext :=
  { c with
    lineRetries := c.lineRetries + 1
    totalRetries := c.totalRetries + 1
    overtaken := false
    buffer := none
    phase := .wait
    awaited := .copyRead }

/-- A retry decision on the context `c` (R78): re-read, or abort ABORTED_CONTENDED at retry_limit. -/
def State.retryDecision (s : State) (c : MigContext) : State :=
  if s.operating.retryLimit ≤ c.lineRetries then
    (s.putCtx (some c)).abortMigration .abortedContended true
  else (s.putCtx (some c.retry)).bump .copyRetries

/-- End of copy (R83, R19). -/
def State.endOfCopy (s : State) (c : MigContext) : State :=
  match c.mode with
  | .hold =>
    let s₁ :=
      match s.rmt[c.slot] with
      | some ⟨h, .moving cur nx⟩ => s.putSlot c.slot (some ⟨h, .held cur nx⟩)
      | _ => s
    ((s₁.putCtx none).putLast (c.outcome .held)).raise .migration
  | .autoCommit =>
    ((((s.commitSlot c.slot).putCtx none).putLast (c.outcome .committed)).bump .migrationsCommitted).raise .migration

/-- A host write notice taken by the migration engine (R77). -/
def State.migNotice (s : State) (h : HomeRow) (line : Fin 32) : State :=
  match s.mge.ctx with
  | none => s
  | some c =>
    if c.home = h ∧ c.cursor.val = line.val ∧ (c.phase = .reading ∨ (c.phase = .wait ∧ c.awaited = .copyWrite)) then
      s.putCtx (some { c with overtaken := true })
    else s

/-! ## Patrol scrubber (chapter 5) -/

/-- The scrub line context replaced. -/
def State.putLine (s : State) (l : Option ScrubLine) : State := s.setPsc { s.psc with line := l }

/-- A pass wrap (R107): in mode SINGLE it ends scrubbing. -/
def State.passWrap (s : State) : State :=
  let psc :=
    match s.psc.state with
    | .running .single => { s.psc with state := ScrubState.idle, timer := none, cursor := 0 }
    | _ => { s.psc with cursor := 0 }
  ((s.setPsc psc).bump .scrubPasses).raise .scrubPass

/-- The cursor moved to a line index, or wrapped where that is past the last line (R97). -/
def State.moveCursor (s : State) (n : Nat) : State :=
  if h : n < 33546240 then s.setPsc { s.psc with cursor := ⟨n, h⟩ } else s.passWrap

/-- End of the scrub line with the advance of the cursor (R97). -/
def State.endLine (s : State) : State := (s.putLine none).moveCursor (s.psc.cursor.val + 1)

/-- A row skip: the first line of the row that follows in cursor order (R97, R99). -/
def State.rowSkip (s : State) : State :=
  (s.bump .skippedRows).moveCursor ((s.psc.cursor.val / 32 + 1) * 32)

/-- The line context a scrub line begins with (R99). -/
def ScrubLine.begin (cursor : Fin 33546240) : ScrubLine where
  phase := .awaitRead
  line := cursor
  recorded := none
  intervened := false
  buffer := none

/-- Whether the scrubber is RUNNING. -/
def ScrubState.isRunning : ScrubState → Bool
  | .running _ => true
  | _ => false

/-- The row tests of one expiry (R99): skip rows that are MOVING or HELD, then begin a line; a wrap in
mode SINGLE ends scrubbing and no line begins. A run of skips passes over at most 128 rows (R99), so 129
tests are enough. -/
def State.beginScrubLine : Nat → State → State
  | 0, s => s
  | n + 1, s =>
    if s.psc.state.isRunning then
      if s.rowMigrating (rowOfLine s.psc.cursor) then State.beginScrubLine n s.rowSkip
      else s.putLine (some (.begin s.psc.cursor))
    else s

/-- The scrubber at entry to RUNNING: its interval timer starts from zero (R98). -/
def State.runScrubber (s : State) (m : ScrubMode) : State :=
  s.setPsc { s.psc with state := .running m, timer := startTimer s.operating.scrubInterval }

/-- The scrubber at entry of the downstream link to FAULT (R108). -/
def State.pauseScrubber (s : State) : State :=
  match s.psc.state with
  | .running m => s.setPsc { s.psc with state := .paused m, timer := none, line := none }
  | _ => s

/-- The scrubber at entry of the downstream link to UP (R108). -/
def State.resumeScrubber (s : State) : State :=
  match s.psc.state with
  | .paused m => s.runScrubber m
  | _ => s

/-- A host write notice taken by the scrubber (R102). -/
def State.scrubNotice (s : State) (h : HomeRow) (line : Fin 32) : State :=
  match s.psc.line with
  | none => s
  | some l =>
    if rowOfLine l.line = h ∧ indexOfLine l.line = line ∧ (l.phase = .reading ∨ l.phase = .awaitWriteback) then
      s.putLine (some { l with intervened := true })
    else s

end Sys2Proof.Machine
end

