-- ==== Sys2Proof/Machine/Ports.lean ====
section
/-! DEFINITION. Shared operations of the two ports: issue FIFO, translation, host records and responses, link states, the traffic gate, downstream faults. -/

namespace Sys2Proof.Machine

/-! ## Issue FIFO (R137, R139, R146) -/

/-- An entry placed at the tail as its request is sent; the response timer starts where the FIFO was empty. -/
def State.issue (s : State) (e : FifoEntry) (request : List Byte) : State :=
  let dp :=
    { s.dp with
      fifo := s.dp.fifo ++ [e]
      timer := if s.dp.fifo.isEmpty then startTimer s.dp.timeout else s.dp.timer }
  (s.setDp dp).setWires { s.wires with dpTx := s.wires.dpTx ++ [request] }

/-- The oldest entry removed at its answer, leaving `rest`: the timer restarts, or stops on an empty FIFO. -/
def State.popFifo (s : State) (rest : List FifoEntry) : State :=
  s.setDp { s.dp with fifo := rest, timer := if rest.isEmpty then none else startTimer s.dp.timeout }

/-! ## Host Request Table and responses (section 7.4) -/

/-- One record of the HRT replaced. -/
def State.putRecord (s : State) (tag : Fin 64) (r : Option HostRecord) : State :=
  s.setUp { s.up with hrt := s.up.hrt.set tag r }

/-- The record at a tag. -/
def State.record (s : State) (tag : Fin 64) : Option HostRecord := s.up.hrt[tag]

/-- Whether the HRT holds no record. -/
def State.hrtEmpty (s : State) : Bool := (List.finRange 64).all fun t => (s.record t).isNone

/-- Number of HRT records, orphans included (R131). -/
def State.hrtCount (s : State) : Nat := (List.finRange 64).countP fun t => (s.record t).isSome

/-- Whether the HRT holds an orphan record (R123). -/
def State.hasOrphan (s : State) : Bool := (List.finRange 64).any fun t => (s.record t).any HostRecord.orphan

/-- A response sent upstream; it gives one credit back (R121, R122). -/
def State.respond (s : State) (tag : Fin 64) (status : HostStatus) (data : List Byte) : State :=
  (s.setUp { s.up with credits := s.up.credits + 1 }).setWires
    { s.wires with upTx := s.wires.upTx ++ [responseBytes tag status data] }

/-! ## Link and gate (R123, R131, R147) -/

/-- Entry of the upstream link to UP at the first moment its conditions hold (R123). -/
def State.upstreamEntry (s : State) : State :=
  if s.up.link = .down ∧ s.pins.upRstN = true ∧ s.rst.force = .none ∧ s.hasOrphan = false then
    s.setUp { s.up with link := .up, credits := Config.creditGrant }
  else s

/-- End of a drain whose last record is gone (R131). -/
def State.drainCheck (s : State) : State :=
  if s.up.gate = .draining ∧ s.hrtEmpty = true then s.setUp { s.up with gate := .closed } else s

/-- Entry of the downstream link to UP at the first moment after the pulse at which DP_READY is high
(R147); a PAUSED scrubber resumes (R108). -/
def State.downstreamEntry (s : State) : State :=
  if s.dp.link = .retrain ∧ s.dp.pulse = none ∧ s.pins.dpReady = true then
    (s.setDp { s.dp with link := .up }).resumeScrubber
  else s

/-- Release of DP_RST_n with the entry to UP that may follow at once (R147). -/
def State.releasePulse (s : State) : State := (s.setDp { s.dp with pulse := none }).downstreamEntry

/-! ## Translation and the host grant (R10 to R14, R127, R145) -/

/-- The migration cursor, 0 while no migration is in progress (R15). -/
def State.copyCursor (s : State) : Nat :=
  match s.mge.ctx with
  | some c => c.cursor.val
  | none => 0

/-- The spare a host write to this line also goes to, if any (Table 1-4). -/
def State.dualTarget (s : State) (h : HomeRow) (line : Fin 32) : Option (Fin 16) :=
  match (s.entryOf h).map RemapEntry.st with
  | some (.moving _ nx) => if line.val < s.copyCursor then some nx else none
  | some (.held _ nx) => some nx
  | _ => none

/-- The legs of a host request, in issue order (R12, R13). -/
def State.translate (s : State) (kind : ReqKind) (h : HomeRow) (line : Fin 32) : List (Leg × Location) :=
  match kind with
  | .read => [(.source, s.currentLoc h)]
  | .write =>
    match s.dualTarget h line with
    | none => [(.source, s.currentLoc h)]
    | some nx => [(.source, s.currentLoc h), (.target, spareLoc h.bank nx)]

/-- The downstream request of a host leg (Table 8-2). -/
def HostRecord.legBytes (r : HostRecord) (loc : Location) : List Byte :=
  match r.kind with
  | .read => readRequestBytes loc r.line
  | .write => writeRequestBytes loc r.line r.mask r.data false

/-- One leg of a record sent and placed in the issue FIFO. -/
def State.sendLeg (tag : Fin 64) (r : HostRecord) (s : State) (leg : Leg × Location) : State :=
  s.issue ⟨.host tag leg.1, r.kind, leg.2, r.line, r.home, false⟩ (r.legBytes leg.2)

/-- The host write notice, given once per host write (R145). -/
def State.writeNotice (s : State) (r : HostRecord) : State :=
  match r.kind with
  | .read => s
  | .write => (s.migNotice r.home r.line).scrubNotice r.home r.line

/-- The issue of the head of the forward queue (R127, R145). -/
def State.hostGrant (s : State) : State :=
  match s.up.forward with
  | [] => s
  | tag :: rest =>
    let s₁ := s.setUp { s.up with forward := rest }
    match s.record tag with
    | none => s₁
    | some r =>
      let legs := s.translate r.kind r.home r.line
      let s₂ := legs.foldl (State.sendLeg tag r) s₁
      (s₂.putRecord tag (some { r with legsIssued := legs.length })).writeNotice r

/-! ## Answers to host legs (R128, R135) -/

/-- The worse of two statuses: UE worse than CE worse than OK (Table 7-4). -/
def AnswerStatus.worse : AnswerStatus → AnswerStatus → AnswerStatus
  | .ue, _ => .ue
  | _, .ue => .ue
  | .ce, _ => .ce
  | _, .ce => .ce
  | .ok, .ok => .ok

/-- Response status from the worst leg status (Table 7-5). -/
def AnswerStatus.response : AnswerStatus → HostStatus
  | .ok => .ok
  | .ce => .corrected
  | .ue => .poison

/-- A record after one more of its legs is answered (R128). -/
def HostRecord.answered (r : HostRecord) (st : AnswerStatus) (data : List Byte) : HostRecord :=
  { r with
    legsAnswered := r.legsAnswered + 1
    worst := r.worst.worse st
    readData := if r.kind = .read ∧ st ≠ .ue then some data else r.readData }

/-- The data of a response: with a READ answered OK or CORRECTED only (R121). -/
def HostRecord.responseData (r : HostRecord) : List Byte :=
  if r.kind = .read ∧ r.worst ≠ .ue then r.readData.getD [] else []

/-- An answer to a HOST leg of a record that is no orphan (R128). -/
def State.hostAnswer (s : State) (tag : Fin 64) (st : AnswerStatus) (data : List Byte) : State :=
  match s.record tag with
  | none => s
  | some r =>
    let r' := r.answered st data
    if r'.legsAnswered = r'.legsIssued then
      ((s.putRecord tag none).respond tag r'.worst.response r'.responseData).drainCheck
    else s.putRecord tag (some r')

/-- An answer to a HOST leg of an orphan record (R135). -/
def State.orphanAnswer (s : State) (tag : Fin 64) : State :=
  match s.record tag with
  | none => s
  | some r =>
    if r.legsAnswered + 1 = r.legsIssued then ((s.putRecord tag none).upstreamEntry).drainCheck
    else s.putRecord tag (some { r with legsAnswered := r.legsAnswered + 1 })

/-! ## Downstream faults (R148, R149, R129) -/

/-- The tag of a HOST entry. -/
def FifoEntry.hostTag (e : FifoEntry) : Option (Fin 64) :=
  match e.owner with
  | .host tag _ => some tag
  | _ => none

/-- A list of tags with each kept at its first place only. -/
def firstTags : List (Fin 64) → List (Fin 64)
  | [] => []
  | t :: ts => t :: (firstTags ts).filter (· ≠ t)

/-- The tags answered FAILED at a fault, in their order: issue order for records whose legs were issued,
then forward-queue order (R129). Any other record, which no run makes, comes last (log entry 17). -/
def State.failedTags (s : State) : List (Fin 64) :=
  (firstTags (s.dp.fifo.filterMap FifoEntry.hostTag ++ s.up.forward ++ List.finRange 64)).filter fun t =>
    (s.record t).any fun r => !r.orphan

/-- The upstream port at a fault (R129): FAILED for every record that is no orphan, every record removed,
a drain ended, a link that waits for its orphans entered UP. -/
def State.failHost (s : State) : State :=
  let tags := s.failedTags
  let s₁ :=
    s.setUp
      { s.up with
        credits := s.up.credits + tags.length
        hrt := Vector.replicate 64 none
        forward := [] }
  ((s₁.setWires { s.wires with upTx := s.wires.upTx ++ tags.map fun t => responseBytes t .failed [] }).drainCheck).upstreamEntry

/-- The flush of a fault: reason, every entry removed, the timer stopped (R148, R149). -/
def State.faultPort (s : State) (reason : FaultReason) : State :=
  s.setDp { s.dp with link := .fault, lastFault := reason, fifo := [], timer := none }

/-- Entry of the downstream link to FAULT with its effect on every owner (R148, Table 8-6). -/
def State.enterFault (s : State) (reason : FaultReason) : State :=
  let s₁ := ((s.failHost.faultPort reason).bump .dlinkFaults).raise .link
  ((s₁.abortMigration .abortedDownstream true).pauseScrubber).putStarvation 0

end Sys2Proof.Machine
end

