-- ==== Sys2Proof/Machine/Results.lean ====
section
/-! DEFINITION. Shared operations of the management port and of the resets (chapter 10). -/

namespace Sys2Proof.Machine

/-! ## Frames (R165, R175) -/

/-- Whether the frame that ends now is received: no reset is in force, and none was at the fall of MG_CS_n
or has started since. -/
def State.hears (s : State) : Bool := !s.inReset && s.mgp.frame != .ignored

/-- MG_CS_n falls: a frame begins, received where no reset is in force. -/
def State.beginFrame (s : State) : State :=
  match s.mgp.frame with
  | .idle => s.setMgp { s.mgp with frame := if s.inReset then .ignored else .receiving }
  | .receiving => s
  | .ignored => s

/-- MG_CS_n rises: no frame is in progress. -/
def State.endFrame (s : State) : State := s.setMgp { s.mgp with frame := .idle }

/-- The frame state after the start of a reset, which abandons a frame in progress (R175, R176). -/
def FrameState.abandoned : FrameState → FrameState
  | .idle => .idle
  | .receiving => .ignored
  | .ignored => .ignored

/-- The bits a frame shifted out, kept in the record of what was sent (log entry 9). -/
def State.sendBits (s : State) (bits : List Bool) : State :=
  s.setWires { s.wires with mgTx := s.wires.mgTx ++ [bits] }

/-- The end of a COMMAND frame with these bytes after its type byte: zeros were shifted out (R165). -/
def State.endCommandFrame (s : State) (sent : List Byte) : State :=
  (s.sendBits (zeroBits (8 * (sent.length + 1)))).endFrame

/-! ## Results (R167 to R170) -/

/-- Whether a result has not been read (R170). -/
def ResultBuffer.isUnread : ResultBuffer → Bool
  | .unread _ => true
  | _ => false

/-- A result written at the end of a COMMAND frame (R169, R170): it takes the sequence number, which then
advances, and carries overrun where the result it replaces was UNREAD. `sent` are the bytes after the frame
type byte, of which the shift buffer keeps 16 (R167); DESIGN CHOICE (log entry 11): it keeps them after the frame. -/
def State.answer (s : State) (code : Byte) (sent : List Byte) (r : Reply) : State :=
  let s₁ := s.endCommandFrame sent
  s₁.setMgp
    { s₁.mgp with
      shift := sent.take Config.shiftCapacity
      buffer := .unread ⟨r, s.mgp.seq, code, s.mgp.buffer.isUnread⟩
      seq := s.mgp.seq + 1#8 }

/-- The end of a COMMAND frame that names action `a` (R166, R167): nothing where the frame is not received
(R165), BAD_LENGTH where the argument count is wrong, else the owner's checks and effect, `body`. -/
def State.runAction (s : State) (a : Action) (args : List Byte) (body : State → Reply × State) : State :=
  if s.hears then
    if args.length = a.argLength then (body s).2.answer a.code (a.code :: args) (body s).1
    else s.answer a.code (a.code :: args) .badLength
  else s.endFrame

/-- The buffer after a RESULT frame of `n` bytes (R170): six bytes or more mark an UNREAD result READ. -/
def ResultBuffer.afterRead (b : ResultBuffer) (n : Nat) : ResultBuffer :=
  match b with
  | .unread r => if 6 ≤ n then .read r else b
  | _ => b

/-! ## Resets (R174 to R176 and each block's reset rule) -/

/-- Every block at its power-on values, a frame in progress abandoned; the input pins, the record of what was
sent and the queue of commands are not the device's to change (R174, R176). -/
def State.powerOnValues (s : State) : State :=
  { State.reset with
    pins := s.pins
    mgp := { ManagementPort.powerOn with frame := s.mgp.frame.abandoned }
    wires := s.wires
    pending := s.pending }

/-- Rollback of one MOVING or HELD entry within a device reset, counted (R27, R95). -/
def State.resetSlot (s : State) (i : Fin 128) : State :=
  if (s.rmt[i]).any fun e => e.st.isMigrating then (s.rollbackSlot i).bump .migrationsAborted else s

/-- Every HELD entry rolled back within a device reset (R95). -/
def State.resetEntries (s : State) : State := (List.finRange 128).foldl State.resetSlot s

/-- Start of a device reset of this kind: every block takes its device-reset values (R175, R95, R112,
R119, R136, R153, R163, R176). The migration in progress aborts first, with ABORTED_RESET. -/
def State.deviceResetValues (s : State) (kind : ResetKind) (hold : Option Interval) : State :=
  let s₁ := (s.abortMigration .abortedReset false).resetEntries
  { s₁ with
    rst := { s₁.rst with force := .device, hold := hold, last := kind }
    emn := { s₁.emn with decay := none }
    mge := { s₁.mge with queue := [] }
    psc := { s₁.psc with state := .idle, timer := none, line := none }
    prf := ProfileBlock.default
    up := UpstreamPort.powerOn
    dp := DownstreamPort.powerOn
    alc := AlertController.powerOn
    mgp := { ManagementPort.powerOn with frame := s₁.mgp.frame.abandoned } }

/-- End of the reset in force: the upstream link enters UP where UP_RST_n is high (R123, R136), and DP_RST_n
is released where it has been low for its 10 µs (R147). -/
def State.endReset (s : State) : State :=
  let s₁ := s.setRst { s.rst with force := .none, hold := none }
  let s₂ := s₁.upstreamEntry
  if isDue s₂.dp.pulse then s₂.releasePulse else s₂

/-- Whether DEVICE_RESET no longer holds the reset: it never did, or its 10 µs have passed (R175). -/
def State.holdPassed (s : State) : Bool := s.rst.hold.all fun h => h.length ≤ h.elapsed

/-- The reset in force ends where every source that holds it has ended (R174, R175): a power-on reset with
the supplies within limits and RST_n high, a device reset with RST_n high and the hold passed. -/
def State.releaseReset (s : State) : State :=
  match s.rst.force with
  | .none => s
  | .powerOn => if s.rst.supplies && s.pins.rstN then s.endReset else s
  | .device => if s.pins.rstN && s.holdPassed then s.endReset else s

/-- RST_n rises where `rise` holds. -/
def State.rstRise (s : State) (rise : Bool) : State :=
  if rise then s.setPins { s.pins with rstN := true } else s

end Sys2Proof.Machine
end

