-- ==== Sys2Proof/Machine/Downstream.lean ====
section
/-! DEFINITION. Commands of the arbiter and the downstream port (chapter 8), with the answers the engines take (chapters 4 and 5). -/

namespace Sys2Proof.Machine

/-! ## Arbitration (R141 to R145) -/

/-- A requester of the arbiter (section 8.3). -/
inductive Requester where
  | host
  | migration
  | scrub
  deriving DecidableEq, Repr

/-- The winner of a grant (Table 8-4); none where no requester presents. -/
def State.winner (s : State) : Option Requester :=
  if s.hostPresents && (!s.internalPresents || s.dp.starvation < s.operating.starvationLimit) then some .host
  else if s.migPresents then some .migration
  else if s.scrubPresents then some .scrub
  else none

/-- The awaited COPY_READ issued (R75, R76). -/
def State.copyReadIssue (s : State) (c : MigContext) : State :=
  let line : Fin 32 := Fin.ofNat 32 c.cursor.val
  (s.issue ⟨.copy, .read, c.source, line, c.home, false⟩ (readRequestBytes c.source line)).putCtx
    (some { c with phase := .reading, overtaken := false })

/-- The context after the issue of the COPY_WRITE of line cursor (R82). -/
def MigContext.written (c : MigContext) : MigContext :=
  { c with
    cursor := Fin.ofNat 33 (c.cursor.val + 1)
    lineRetries := 0
    buffer := none
    phase := if c.cursor.val < 31 then .wait else .writing
    awaited := if c.cursor.val < 31 then .copyRead else .copyWrite }

/-- The awaited COPY_WRITE issued (R75, R82). -/
def State.copyWriteIssue (s : State) (c : MigContext) : State :=
  let line : Fin 32 := Fin.ofNat 32 c.cursor.val
  let loc := spareLoc c.home.bank c.target
  let buf := c.buffer.getD ⟨[], false⟩
  (s.issue ⟨.copy, .write, loc, line, c.home, false⟩ (writeRequestBytes loc line fullMask buf.data buf.poison)).putCtx
    (some c.written)

/-- The context of a COPY_WRITE withdrawn at its grant: a poisoned buffer is not written (R81). -/
def MigContext.withdrawn (c : MigContext) : MigContext :=
  { c with poisoned := if c.buffer.any LineBuffer.poison then c.poisoned - 1 else c.poisoned }

/-- A grant won by the migration engine (R76, R81, R82). -/
def State.migrationGrant (s : State) : State :=
  match s.mge.ctx with
  | none => s
  | some c =>
    match c.awaited with
    | .copyRead => s.copyReadIssue c
    | .copyWrite => if c.overtaken then s.retryDecision c.withdrawn else s.copyWriteIssue c

/-- A grant of the SCRUB_READ (R101, R17). -/
def State.scrubReadGrant (s : State) (l : ScrubLine) : State :=
  let h := rowOfLine l.line
  if s.rowMigrating h then (s.putLine none).rowSkip
  else
    let loc := s.currentLoc h
    (s.issue ⟨.scrub, .read, loc, indexOfLine l.line, h, false⟩ (readRequestBytes loc (indexOfLine l.line))).putLine
      (some { l with phase := .reading, recorded := some ⟨loc, (s.entryOf h).isSome⟩ })

/-- Whether the row's translation is the recorded one: same location, and the same state with "no entry"
counted as NONE (R105). -/
def State.translationKept (s : State) (l : ScrubLine) : Bool :=
  let h := rowOfLine l.line
  !s.rowMigrating h && l.recorded == some ⟨s.currentLoc h, (s.entryOf h).isSome⟩

/-- A grant of the SCRUB_WRITEBACK (R105). -/
def State.scrubWritebackGrant (s : State) (l : ScrubLine) : State :=
  if l.intervened || !s.translationKept l then (s.bump .wbDropped).endLine
  else
    let h := rowOfLine l.line
    let loc := s.currentLoc h
    (s.issue ⟨.scrub, .write, loc, indexOfLine l.line, h, false⟩
        (writeRequestBytes loc (indexOfLine l.line) fullMask (l.buffer.getD []) false)).putLine
      (some { l with phase := .writingBack, buffer := none })

/-- A grant won by the scrubber. -/
def State.scrubGrant (s : State) : State :=
  match s.psc.line with
  | none => s
  | some l =>
    match l.phase with
    | .awaitRead => s.scrubReadGrant l
    | .awaitWriteback => s.scrubWritebackGrant l
    | .reading => s
    | .writingBack => s

/-- The starvation count after a grant won by the host: one more where an internal requester presented
and lost (R143). -/
def State.starvationAfterHost (s : State) : Nat :=
  if s.internalPresents then min 255 (s.dp.starvation + 1) else s.dp.starvation

/-- One grant to its winner, with the starvation count of R143. -/
def State.grant (s : State) : Requester → State
  | .host => s.hostGrant.putStarvation s.starvationAfterHost
  | .migration => s.migrationGrant.putStarvation 0
  | .scrub => s.scrubGrant.putStarvation 0

/-- ARBITER_GRANT (R141, R142): one grant at an issue opportunity, none where its conditions do not hold.
`ready` is the level the line controller drives on DP_REQ_READY after the grant (log entry 6). -/
def execArbiterGrant (ready : Bool) (s : State) : Host.Outcome State Fault Refusal :=
  .next
    (if s.dp.link = .up ∧ s.pins.dpReqReady = true then
      match s.winner with
      | some w => (s.grant w).setPins { s.pins with dpReqReady := ready }
      | none => s
    else s)

/-! ## Answers (R138, R140) -/

/-- The context after a COPY_READ answered OK or CE (R79). -/
def MigContext.filled (c : MigContext) (data : List Byte) : MigContext :=
  { c with buffer := some ⟨data, false⟩, phase := .wait, awaited := .copyWrite }

/-- The context after a COPY_READ answered UE (R80): data bytes zero, poison flag set. -/
def MigContext.poison (c : MigContext) : MigContext :=
  { c with
    buffer := some ⟨List.replicate 64 0#8, true⟩
    poisoned := c.poisoned + 1
    phase := .wait
    awaited := .copyWrite }

/-- The answer to the COPY_READ of the line in hand (R79, R80). -/
def State.copyReadAnswer (s : State) (c : MigContext) (e : FifoEntry) (st : AnswerStatus) (data : List Byte) : State :=
  if c.overtaken then s.retryDecision c
  else
    match st with
    | .ok => s.putCtx (some (c.filled data))
    | .ce => s.putCtx (some (c.filled data))
    | .ue => ((s.putCtx (some c.poison)).bump .copyUe).addLoss c.home e.line .copy

/-- An answer to a COPY entry that is no orphan (R79, R82, R83). -/
def State.copyAnswer (s : State) (e : FifoEntry) (st : AnswerStatus) (data : List Byte) : State :=
  match s.mge.ctx with
  | none => s
  | some c =>
    match e.kind, c.phase with
    | .read, .reading => s.copyReadAnswer c e st data
    | .write, .writing => s.endOfCopy c
    | _, _ => s

/-- What the scrubber does with the answer to its SCRUB_READ (R103, R104). -/
def State.scrubReadAnswer (s : State) (l : ScrubLine) (st : AnswerStatus) (data : List Byte) : State :=
  match st with
  | .ok => s.endLine
  | .ue => s.endLine
  | .ce =>
    if s.operating.scrubWriteback then s.putLine (some { l with phase := .awaitWriteback, buffer := some data })
    else s.endLine

/-- An answer to a SCRUB entry that is no orphan, with the attribution of a SCRUB_READ (R42, R103 to R106). -/
def State.scrubAnswer (s : State) (e : FifoEntry) (st : AnswerStatus) (data : List Byte) : State :=
  let s₁ := if e.kind = .read then s.attributeScrub e.home e.line st else s
  match s₁.psc.line with
  | none => s₁
  | some l =>
    match e.kind, l.phase with
    | .read, .reading => s₁.scrubReadAnswer l st data
    | .write, .writingBack => s₁.endLine
    | _, _ => s₁

/-- A matched answer delivered to its entry's owner and to the error monitor (R140). -/
def State.deliver (s : State) (e : FifoEntry) (st : AnswerStatus) (data : List Byte) : State :=
  match e.owner, e.orphan with
  | .host tag _, false => (s.hostAnswer tag st data).attributeHost e.home st
  | .host tag _, true => (s.orphanAnswer tag).attributeHost e.home st
  | .copy, false => s.copyAnswer e st data
  | .copy, true => s
  | .scrub, false => s.scrubAnswer e st data
  | .scrub, true => s

/-- An answer that arrives while the link is UP (R138, R140): matched to the oldest entry, or a fault
with reason BAD_ANSWER. -/
def State.takeAnswer (s : State) (msg : List Byte) : State :=
  match s.dp.fifo with
  | [] => s.enterFault .badAnswer
  | e :: rest =>
    match fitAnswer e.kind msg with
    | none => s.enterFault .badAnswer
    | some (st, data) => (s.popFifo rest).deliver e st data

/-- DOWNSTREAM_ANSWER (R140): discarded while the link is not UP. -/
def execDownstreamAnswer (msg : List Byte) (s : State) : Host.Outcome State Fault Refusal :=
  .next (if s.dp.link = .up then s.takeAnswer msg else s)

/-! ## Timeout, pins and link states (R146 to R148) -/

/-- RESPONSE_TIMER_EXPIRY (R146): FAULT with reason TIMEOUT; nothing where the timer has not run its length
since its last start (log entry 2) or the link is not UP. -/
def execResponseTimerExpiry (s : State) : Host.Outcome State Fault Refusal :=
  .next (if s.dp.link = .up ∧ isDue s.dp.timer = true then s.enterFault .timeout else s)

/-- DP_READY_FALL (R148): a fault with reason NOT_READY while the link is UP; else the level alone. -/
def execDpReadyFall (s : State) : Host.Outcome State Fault Refusal :=
  let s₁ := s.setPins { s.pins with dpReady := false }
  .next (if s.dp.link = .up then s₁.enterFault .notReady else s₁)

/-- DP_READY_RISE (R147): the link enters UP at this rise where the pulse has been released. -/
def execDpReadyRise (s : State) : Host.Outcome State Fault Refusal :=
  .next (s.setPins { s.pins with dpReady := true }).downstreamEntry

/-- DP_RST_PULSE_END (R147): DP_RST_n is released, no sooner than 10 µs after it went low (log entry 2); not
while a reset is in force, which ends it later. -/
def execDpRstPulseEnd (s : State) : Host.Outcome State Fault Refusal :=
  .next (if !s.inReset && isDue s.dp.pulse then s.releasePulse else s)

/-- DOWNSTREAM_LINK_UP (R147): entry to UP where its conditions hold (log entry 8). -/
def execDownstreamLinkUp (s : State) : Host.Outcome State Fault Refusal := .next s.downstreamEntry

/-- DP_REQ_READY_RISE (R141): an edge of DP_REQ_READY, to `level` (log entry 6). The opportunity that a rise
makes is an event of its own; while the level is low there is none. -/
def execDpReqReadyRise (s : State) (level : Bool := true) : Host.Outcome State Fault Refusal :=
  .next (s.setPins { s.pins with dpReqReady := level })

/-! ## Management actions (R150, R151) -/

/-- RECOVER (R150). -/
def recoverBody (s : State) : Reply × State :=
  if s.dp.link = .fault then
    (.done [DownLink.retrain.code, s.dp.lastFault.code],
      s.setDp { s.dp with link := .retrain, pulse := startTimer Config.pulseLength })
  else (.refused .state, s)

/-- RECOVER (R150). -/
def execRecover (args : List Byte) (s : State) : Host.Outcome State Fault Refusal :=
  .next (s.runAction .recover args recoverBody)

/-- LINK_STATUS (R151): LINK is cleared after the payload is formed. -/
def linkStatusBody (s : State) : Reply × State :=
  (.done [s.dp.link.code, s.dp.lastFault.code, flagByte s.pins.dpReady, s.up.link.code, s.up.lastError.code],
    s.clearCause .link)

/-- LINK_STATUS (R151). -/
def execLinkStatus (args : List Byte) (s : State) : Host.Outcome State Fault Refusal :=
  .next (s.runAction .linkStatus args linkStatusBody)

end Sys2Proof.Machine
end

