-- ==== Sys2Proof/Machine/Items.lean ====
section
/-! DEFINITION. The items: profile fields, selectors, port settings, read-only items (chapter 6, section 10.4, R152, R157). -/

namespace Sys2Proof.Machine

/-! ## Profile fields (R113, Table 6-1) -/

/-- The value of a field as its item reads it (Table 6-1, Values). -/
def Profile.get (p : Profile) : ProfileField → Nat
  | .ceThreshold => p.ceThreshold
  | .autoRepair => p.autoRepair.toNat
  | .commitMode => p.commitMode.code.toNat
  | .retryLimit => p.retryLimit
  | .scrubInterval => p.scrubInterval
  | .scrubWriteback => p.scrubWriteback.toNat
  | .decayInterval => p.decayInterval
  | .spareWatermark => p.spareWatermark
  | .starvationLimit => p.starvationLimit

/-- A field set to a value. -/
def Profile.put (p : Profile) (f : ProfileField) (n : Nat) : Profile :=
  match f with
  | .ceThreshold => { p with ceThreshold := n }
  | .autoRepair => { p with autoRepair := n != 0 }
  | .commitMode => { p with commitMode := if n = 0 then .autoCommit else .hold }
  | .retryLimit => { p with retryLimit := n }
  | .scrubInterval => { p with scrubInterval := n }
  | .scrubWriteback => { p with scrubWriteback := n != 0 }
  | .decayInterval => { p with decayInterval := n }
  | .spareWatermark => { p with spareWatermark := n }
  | .starvationLimit => { p with starvationLimit := n }

/-- Least value of a field's range (Table 6-1). -/
def fieldMin : ProfileField → Nat
  | .ceThreshold | .retryLimit | .scrubInterval | .starvationLimit => 1
  | .autoRepair | .commitMode | .scrubWriteback | .decayInterval | .spareWatermark => 0

/-- Greatest value of a field's range (Table 6-1). -/
def fieldMax : ProfileField → Nat
  | .ceThreshold => 255
  | .autoRepair => 1
  | .commitMode => 1
  | .retryLimit => 15
  | .scrubInterval => 65535
  | .scrubWriteback => 1
  | .decayInterval => 65535
  | .spareWatermark => 16
  | .starvationLimit => 255

/-- Whether a value lies in a field's range (Table 6-1, R116). -/
def fieldInRange (f : ProfileField) (n : Nat) : Bool := fieldMin f ≤ n && n ≤ fieldMax f

/-- The profile WRSEL names (R115). -/
def State.written (s : State) : Profile := s.prf.profiles[s.prf.wrsel]

/-! ## Values (R171) -/

/-- The value of a read-only state item (Table 10-3). DESIGN CHOICE (log entry 25): R24 speaks of migration
items that report the migration cursor and the tables list none, so MIGRATION_STATUS alone reports it. -/
def State.stateItem (s : State) : StateItem → Nat
  | .gate => s.up.gate.code.toNat
  | .upstreamLink => s.up.link.code.toNat
  | .downstreamLink => s.dp.link.code.toNat
  | .scrubState => s.psc.state.code.toNat
  | .scrubCursor => s.psc.cursor.val
  | .migrationBusy => s.mge.ctx.isSome.toNat
  | .heldCount => s.heldCount
  | .queueLength => s.mge.queue.length
  | .suspectCount => s.emn.suspects.length
  | .lossCount => s.emn.losses.length
  | .freeSpares => s.freeTotal

/-- The value of an item as ITEM_READ returns it (R171). -/
def State.itemValue (s : State) : Item → Word32
  | .field f => BitVec.ofNat 32 (s.written.get f)
  | .opsel => BitVec.ofNat 32 s.prf.opsel.val
  | .wrsel => BitVec.ofNat 32 s.prf.wrsel.val
  | .alertEnable => s.alc.enable.zeroExtend 32
  | .dlinkTimeout => BitVec.ofNat 32 s.dp.timeout
  | .stateItem i => BitVec.ofNat 32 (s.stateItem i)
  | .counter c => s.counter c

/-! ## Accepted writes -/

/-- A write of a field of the profile WRSEL names, with R52's answer to a change of the operating
decay_interval (R116). -/
def State.writeField (s : State) (f : ProfileField) (n : Nat) : State :=
  (s.setPrf { s.prf with profiles := s.prf.profiles.set s.prf.wrsel (s.written.put f n) }).retimeDecay
    s.operating.decayInterval

/-- A write of OPSEL (R114). -/
def State.writeOpsel (s : State) (i : Fin 2) : State :=
  (s.setPrf { s.prf with opsel := i }).retimeDecay s.operating.decayInterval

/-- A write of WRSEL (R115). -/
def State.writeWrsel (s : State) (i : Fin 2) : State := s.setPrf { s.prf with wrsel := i }

/-- A capture released where its cause is not in the enable set (R161). -/
def AlertController.keepCapture (a : AlertController) : AlertController :=
  match a.capture with
  | some c => if a.enable.getLsbD c.bit then a else { a with capture := none }
  | none => a

/-- A write of ALERT_ENABLE (R157). -/
def State.writeEnable (s : State) (e : BitVec 6) : State := s.setAlc { s.alc with enable := e }.keepCapture

/-- A write of DLINK_TIMEOUT (R152): the interval that runs is not changed. -/
def State.writeTimeout (s : State) (n : Nat) : State := s.setDp { s.dp with timeout := n }

/-- The writes of the five writable item forms, `none` for a value outside the item's range (R114, R115,
R116, R152, R157). -/
def State.writeValue (s : State) (it : Item) (v : Word32) : Option State :=
  match it with
  | .field f => if fieldInRange f v.toNat then some (s.writeField f v.toNat) else none
  | .opsel => if v.toNat < 2 then some (s.writeOpsel (Fin.ofNat 2 v.toNat)) else none
  | .wrsel => if v.toNat < 2 then some (s.writeWrsel (Fin.ofNat 2 v.toNat)) else none
  | .alertEnable => if v.toNat < 64 then some (s.writeEnable (v.truncate 6)) else none
  | .dlinkTimeout => if 1 ≤ v.toNat ∧ v.toNat ≤ 65535 then some (s.writeTimeout v.toNat) else none
  | .stateItem _ => none
  | .counter _ => none

/-- Whether an item is read only: the state items and the counters (R172). -/
def Item.readOnly : Item → Bool
  | .stateItem _ => true
  | .counter _ => true
  | .field _ | .opsel | .wrsel | .alertEnable | .dlinkTimeout => false

/-- An ITEM_WRITE of an item (R172, checks 2 and 3): DONE with the item's number and the value now held. -/
def writeItem (s : State) (number : Byte) (it : Item) (v : Word32) : Reply × State :=
  if it.readOnly then (.refused .readOnly, s)
  else
    match s.writeValue it v with
    | none => (.badArg, s)
    | some s' => (.done (number :: be32 (s'.itemValue it)), s')

/-- ITEM_WRITE by its argument bytes (R172): BAD_ARG for a number that names no item. -/
def itemWriteBody (args : List Byte) (s : State) : Reply × State :=
  match itemOf (arg args 0) with
  | none => (.badArg, s)
  | some it => writeItem s (args.getD 0 0#8) it (arg32 args 1)

/-- ITEM_WRITE (R172), of any item. -/
def execItemWrite (args : List Byte) (s : State) : Host.Outcome State Fault Refusal :=
  .next (s.runAction .itemWrite args (itemWriteBody args))

/-- ITEM_READ (R171): BAD_ARG for a number that names no item. -/
def itemReadBody (args : List Byte) (s : State) : Reply × State :=
  match itemOf (arg args 0) with
  | none => (.badArg, s)
  | some it => (.done (args.getD 0 0#8 :: be32 (s.itemValue it)), s)

/-- ITEM_READ (R171). -/
def execItemRead (args : List Byte) (s : State) : Host.Outcome State Fault Refusal :=
  .next (s.runAction .itemRead args (itemReadBody args))

/-- An ITEM_WRITE frame of item `number` with this value: its five argument bytes are well counted. -/
def State.writeFrame (s : State) (number : Byte) (it : Item) (v : Word32) : State :=
  s.runAction .itemWrite (number :: be32 v) fun s => writeItem s number it v

/-- OPSEL_WRITE (R114). -/
def execOpselWrite (value : Word32) (s : State) : Host.Outcome State Fault Refusal :=
  .next (s.writeFrame 16#8 .opsel value)

/-- WRSEL_WRITE (R115). -/
def execWrselWrite (value : Word32) (s : State) : Host.Outcome State Fault Refusal :=
  .next (s.writeFrame 17#8 .wrsel value)

/-- PROFILE_FIELD_WRITE (R116). -/
def execProfileFieldWrite (field : ProfileField) (value : Word32) (s : State) : Host.Outcome State Fault Refusal :=
  .next (s.writeFrame (fieldNumber field) (.field field) value)

/-- ALERT_ENABLE_WRITE (R157). -/
def execAlertEnableWrite (value : Word32) (s : State) : Host.Outcome State Fault Refusal :=
  .next (s.writeFrame 18#8 .alertEnable value)

/-- DLINK_TIMEOUT_WRITE (R152). -/
def execDlinkTimeoutWrite (value : Word32) (s : State) : Host.Outcome State Fault Refusal :=
  .next (s.writeFrame 19#8 .dlinkTimeout value)

end Sys2Proof.Machine
end

