-- ==== Sys2Proof/Machine/Management.lean ====
section
/-! DEFINITION. Management frames that name no action, and the actions of the alert controller and the management port (R159, chapter 10). -/

namespace Sys2Proof.Machine

/-- RESULT_FRAME (R170): the buffer shifts out, and a frame of six bytes or more marks an UNREAD result
READ. Nothing where the frame is not received (R165). A frame with no bit is ignored (R166, case 1). -/
def execResultFrame (nBytes : Nat) (s : State) : Host.Outcome State Fault Refusal :=
  .next
    (if s.hears && nBytes != 0 then
      (s.sendBits (sdoBits s.mgp.buffer (8 * nBytes))).setMgp
        { s.mgp with frame := .idle, buffer := s.mgp.buffer.afterRead nBytes }
    else s.endFrame)

/-- A frame error (R166): the frame is discarded and counted. The bits it shifted out stay in the record of
what was sent (R165). DESIGN CHOICE (log entry 11): the command shift buffer keeps what it held before the
frame. -/
def State.frameError (s : State) (bits : List Bool) : State :=
  ((s.sendBits (frameBits s.mgp.buffer s.wires.mgTx.length bits)).endFrame).bump .mgmtFrameErrors

/-- The end of a frame that R166 judges by its cases 1 to 3. A frame that R166 does not judge an error is
another row's (log entry 14). Nothing where the frame is not received (R165). -/
def State.discardFrame (s : State) (bits : List Bool) : Host.Outcome State Fault Refusal :=
  if !s.hears || bits.isEmpty then .next s.endFrame
  else if isFrameError bits then .next (s.frameError bits)
  else .refused .otherRow

/-- MGMT_FRAME_ERROR (R165, R166): the fall of MG_CS_n (log entry 10), or the end of a frame. -/
def execMgmtFrameError (event : FrameEvent) (s : State) : Host.Outcome State Fault Refusal :=
  match event with
  | .fall => .next s.beginFrame
  | .rise bits => s.discardFrame bits

/-- UNKNOWN_ACTION (R167, check 1): BAD_ACTION, echoing the code, or 0 where it is missing. A code that
names an action is another row's (log entry 14). Nothing where the frame is not received (R165). -/
def execUnknownAction (code : Option Byte) (args : List Byte) (s : State) : Host.Outcome State Fault Refusal :=
  if !s.hears then .next s.endFrame
  else
    match code with
    | none => .next (s.answer 0#8 [] .badAction)
    | some c => if namesAction c then .refused .otherRow else .next (s.answer c (c :: args) .badAction)

/-- The capture step of ALERT_IDENTIFY (R159). -/
def State.capture (s : State) : State :=
  match s.alc.capture with
  | some _ => s
  | none => s.setAlc { s.alc with capture := s.topCause }

/-- ALERT_IDENTIFY (R159): captured cause, pending set, enable set, all taken after the capture step. -/
def alertIdentifyBody (s : State) : Reply × State :=
  let s' := s.capture
  (.done [captureByte s'.alc.capture, s'.pendingByte, s'.alc.enable.zeroExtend 8], s')

/-- ALERT_IDENTIFY (R159). -/
def execAlertIdentify (args : List Byte) (s : State) : Host.Outcome State Fault Refusal :=
  .next (s.runAction .alertIdentify args alertIdentifyBody)

/-- COUNTER_CLEAR (R173): the 16 values in the order of Table 10-4, then all are 0. -/
def counterClearBody (s : State) : Reply × State :=
  (.done (s.counters.toList.flatMap be32), s.setCounters (Vector.replicate 16 0#32))

/-- COUNTER_CLEAR (R173). -/
def execCounterClear (args : List Byte) (s : State) : Host.Outcome State Fault Refusal :=
  .next (s.runAction .counterClear args counterClearBody)

/-- RESET_REPORT (R176). -/
def resetReportBody (s : State) : Reply × State :=
  (.done (s.rst.last.code :: be16 Config.partCode ++ [Config.designStep]), s)

/-- RESET_REPORT (R176). -/
def execResetReport (args : List Byte) (s : State) : Host.Outcome State Fault Refusal :=
  .next (s.runAction .resetReport args resetReportBody)

end Sys2Proof.Machine
end

