-- ==== Sys2Proof/Machine/Remap.lean ====
section
/-! DEFINITION. Actions of the remap table (section 1.5) and of the spare pool (chapter 2). -/

namespace Sys2Proof.Machine

/-- REMAP_LOAD, checks 2 to 5 of Table 1-7 and the effect (R23, R32). -/
def remapLoad (s : State) (h : HomeRow) (sp : Fin 16) : Reply × State :=
  if s.up.gate ≠ .closed ∨ s.mge.ctx.isSome = true then (.refused .state, s)
  else if (s.slotOf h).isSome then (.refused .duplicate, s)
  else if s.spare h.bank sp ≠ .free then (.refused .noSpare, s)
  else
    match s.emptySlot with
    | none => (.refused .noEntry, s)
    | some i => (.done [byte i.val], (s.putSlot i (some ⟨h, .active sp⟩)).putSpare h.bank sp .assigned)

/-- REMAP_LOAD with its range check (R2, R23). -/
def remapLoadBody (args : List Byte) (s : State) : Reply × State :=
  match homeArgs args, fin16Arg (arg args 3) with
  | some h, some sp => remapLoad s h sp
  | _, _ => (.refused .range, s)

/-- REMAP_LOAD (R23). -/
def execRemapLoad (args : List Byte) (s : State) : Host.Outcome State Fault Refusal :=
  .next (s.runAction .remapLoad args (remapLoadBody args))

/-- REMAP_READ (R24). -/
def remapReadBody (args : List Byte) (s : State) : Reply × State :=
  match slotArg (arg args 0) with
  | none => (.refused .range, s)
  | some i =>
    match s.rmt[i] with
    | none => (.refused .empty, s)
    | some e => (.done (remapPayload i e), s)

/-- REMAP_READ (R24). -/
def execRemapRead (args : List Byte) (s : State) : Host.Outcome State Fault Refusal :=
  .next (s.runAction .remapRead args (remapReadBody args))

/-- The payload that reports the entry in a slot (R24). -/
def State.entryPayload (s : State) (i : Fin 128) : List Byte :=
  match s.rmt[i] with
  | some e => remapPayload i e
  | none => []

/-- REMAP_FIND (R25). -/
def remapFindBody (args : List Byte) (s : State) : Reply × State :=
  match homeArgs args with
  | none => (.refused .range, s)
  | some h =>
    match s.slotOf h with
    | none => (.refused .notFound, s)
    | some i => (.done (s.entryPayload i), s)

/-- REMAP_FIND (R25). -/
def execRemapFind (args : List Byte) (s : State) : Host.Outcome State Fault Refusal :=
  .next (s.runAction .remapFind args (remapFindBody args))

/-- One bank report of SPARE_STATUS: FREE, ASSIGNED, RETIRED, changed (R37, Table 11-7).
DESIGN CHOICE (log entry 24): the changed byte is 1 where the flag is set and 0 where it is clear. -/
def State.bankReport (s : State) (b : Fin 16) : List Byte :=
  [byte (s.spareCount b .free), byte (s.spareCount b .assigned), byte (s.spareCount b .retired),
    flagByte s.spl.changed[b]]

/-- SPARE_STATUS (R37): the reports formed, then the changed flags and SPARE_LOW cleared. -/
def spareStatusBody (s : State) : Reply × State :=
  (.done ((List.finRange 16).flatMap s.bankReport),
    (s.setSpl { s.spl with changed := Vector.replicate 16 false }).clearCause .spareLow)

/-- SPARE_STATUS (R37). -/
def execSpareStatus (args : List Byte) (s : State) : Host.Outcome State Fault Refusal :=
  .next (s.runAction .spareStatus args spareStatusBody)

/-- SPARE_RETIRE, checks 2 and 3 of Table 2-3 and the effect (R35). -/
def spareRetire (s : State) (b i : Fin 16) : Reply × State :=
  if s.up.gate ≠ .closed then (.refused .state, s)
  else if s.spare b i ≠ .free then (.refused .state, s)
  else
    let s' := s.putSpare b i .retired
    (.done [byte b.val, byte (s'.spareCount b .free), byte (s'.spareCount b .assigned),
      byte (s'.spareCount b .retired)], s')

/-- SPARE_RETIRE with its range check (R35). -/
def spareRetireBody (args : List Byte) (s : State) : Reply × State :=
  match fin16Arg (arg args 0), fin16Arg (arg args 1) with
  | some b, some i => spareRetire s b i
  | _, _ => (.refused .range, s)

/-- SPARE_RETIRE (R35). -/
def execSpareRetire (args : List Byte) (s : State) : Host.Outcome State Fault Refusal :=
  .next (s.runAction .spareRetire args (spareRetireBody args))

end Sys2Proof.Machine
end

