-- ==== Sys2Proof/Machine/Migration.lean ====
section
/-! DEFINITION. The migration start and the actions of the repair queue and the migration engine (chapter 4). -/

namespace Sys2Proof.Machine

/-! ## Migration start (R71 to R73) -/

/-- A start failure (R72): the removed request is discarded, the record unpinned, the outcome written. -/
def State.startFailure (s : State) (q : RepairRequest) (o : MigOutcome) : State :=
  ((s.unpin q.home).putLast
    { home := q.home, outcome := o, spare := none, mode := some q.mode, origin := some q.origin,
      poisoned := 0, retries := 0 }).raise .migration

/-- The context a successful start makes (Table 4-4). -/
def MigContext.begin (slot : Fin 128) (source : Location) (target : Fin 16) (q : RepairRequest) : MigContext where
  slot := slot
  home := q.home
  source := source
  target := target
  mode := q.mode
  origin := q.origin
  cursor := 0
  phase := .wait
  awaited := .copyRead
  buffer := none
  overtaken := false
  lineRetries := 0
  totalRetries := 0
  poisoned := 0

/-- A start that passed its checks (R73): allocation with its watermark check (R30, R31), the entry MOVING
in its slot with its current kept (R18), the context busy. -/
def State.beginMigration (s : State) (q : RepairRequest) (slot : Fin 128) (cur : Option (Fin 16)) (nx : Fin 16) : State :=
  let s₁ := (s.putSpare q.home.bank nx .assigned).checkWatermark q.home.bank
  (s₁.putSlot slot (some ⟨q.home, .moving cur nx⟩)).putCtx (some (.begin slot (s.currentLoc q.home) nx q))

/-- The start with slot and current spare settled: the last check of Table 4-3. -/
def State.startInSlot (s : State) (q : RepairRequest) (slot : Fin 128) (cur : Option (Fin 16)) : State :=
  match s.lowestFree q.home.bank with
  | none => s.startFailure q .noSpare
  | some nx => s.beginMigration q slot cur nx

/-- The start of a request taken from the head of the queue, by the checks of Table 4-3 (R18, R72). -/
def State.startRequest (s : State) (q : RepairRequest) : Host.Outcome State Fault Refusal :=
  match s.slotOf q.home with
  | none =>
    match s.emptySlot with
    | none => .next (s.startFailure q .noEntry)
    | some i => .next (s.startInSlot q i none)
  | some i =>
    match (s.rmt[i]).map RemapEntry.st with
    | some (.active c) => .next (s.startInSlot q i (some c))
    | _ => .fault .queuedRowInMigration

/-- MIGRATION_START (R71): made where the context is idle, the queue holds a request and the link is UP. -/
def execMigrationStart (s : State) : Host.Outcome State Fault Refusal :=
  match s.mge.queue with
  | [] => .next s
  | q :: rest =>
    if s.mge.ctx = none ∧ s.dp.link = .up then (s.putQueue rest).startRequest q else .next s

/-! ## Actions -/

/-- REPAIR_REQUEST, the checks of Table 4-2 after the mode (R68). -/
def repairRequest (s : State) (h : HomeRow) (m : Mode) : Reply × State :=
  if s.isQueued h then (.refused .duplicate, s)
  else if s.rowMigrating h then (.refused .state, s)
  else if Config.queueCapacity ≤ s.mge.queue.length then (.refused .full, s)
  else
    (.done [byte s.mge.queue.length, byte (s.mge.queue.length + 1)], s.putQueue (s.mge.queue ++ [⟨h, m, .request⟩]))

/-- REPAIR_REQUEST: BAD_ARG for a mode that names none, before any other check (R68). -/
def repairRequestBody (args : List Byte) (s : State) : Reply × State :=
  match modeArg (arg args 3) with
  | none => (.badArg, s)
  | some m =>
    match homeArgs args with
    | none => (.refused .range, s)
    | some h => repairRequest s h m

/-- REPAIR_REQUEST (R68). -/
def execRepairRequest (args : List Byte) (s : State) : Host.Outcome State Fault Refusal :=
  .next (s.runAction .repairRequest args (repairRequestBody args))

/-- REPAIR_CANCEL on a row in range, by the first case of R69 that applies. -/
def repairCancel (s : State) (h : HomeRow) : Reply × State :=
  match s.mge.queue.find? (fun q => q.home == h) with
  | some q =>
    (.done (0#8 :: queuePayload q ++ [byte (s.mge.queue.findIdx fun q => q.home == h)]),
      s.putQueue (s.mge.queue.filter fun q => q.home != h))
  | none =>
    match s.mge.ctx with
    | none => (.refused .notFound, s)
    | some c =>
      if c.home = h then
        (.done (1#8 :: queuePayload ⟨h, c.mode, c.origin⟩ ++ [255#8]), s.abortMigration .abortedCancelled false)
      else (.refused .notFound, s)

/-- REPAIR_CANCEL with its range check (R69). -/
def repairCancelBody (args : List Byte) (s : State) : Reply × State :=
  match homeArgs args with
  | none => (.refused .range, s)
  | some h => repairCancel s h

/-- REPAIR_CANCEL (R69). -/
def execRepairCancel (args : List Byte) (s : State) : Host.Outcome State Fault Refusal :=
  .next (s.runAction .repairCancel args (repairCancelBody args))

/-- QUEUE_READ (R70). -/
def queueReadBody (s : State) : Reply × State :=
  (.done (byte s.mge.queue.length :: s.mge.queue.flatMap queuePayload), s)

/-- QUEUE_READ (R70). -/
def execQueueRead (args : List Byte) (s : State) : Host.Outcome State Fault Refusal :=
  .next (s.runAction .queueRead args queueReadBody)

/-- The slot and next spare of a row whose entry is HELD (R84). -/
def State.heldSlot (s : State) (h : HomeRow) : Option (Fin 128 × Fin 16) :=
  (s.slotOf h).bind fun i =>
    match (s.rmt[i]).map RemapEntry.st with
    | some (.held _ nx) => some (i, nx)
    | _ => none

/-- The outcome record of COMMIT and DISCARD: no mode, no origin (Table 4-7, R84). -/
def settledOutcome (h : HomeRow) (o : MigOutcome) (sp : Fin 16) : LastOutcome where
  home := h
  outcome := o
  spare := some sp
  mode := none
  origin := none
  poisoned := 0
  retries := 0

/-- COMMIT of a HELD row (R84, R20). -/
def commitRow (s : State) (h : HomeRow) : Reply × State :=
  match s.heldSlot h with
  | none => (.refused .state, s)
  | some (i, nx) =>
    let s₁ := ((s.commitSlot i).bump .migrationsCommitted).putLast (settledOutcome h .committed nx)
    (.done (s₁.entryPayload i), s₁)

/-- COMMIT with its range check (R84). -/
def commitBody (args : List Byte) (s : State) : Reply × State :=
  match homeArgs args with
  | none => (.refused .range, s)
  | some h => commitRow s h

/-- COMMIT (R84). -/
def execCommit (args : List Byte) (s : State) : Host.Outcome State Fault Refusal :=
  .next (s.runAction .commit args (commitBody args))

/-- What DISCARD reports of a slot after the rollback: state and current, or the marker REMOVED (R84). -/
def State.afterRollback (s : State) (i : Fin 128) : List Byte :=
  match s.rmt[i] with
  | some e => [e.st.code, spareByte e.st.current]
  | none => [0#8, 255#8]

/-- DISCARD of a HELD row (R84, R21). -/
def discardRow (s : State) (h : HomeRow) : Reply × State :=
  match s.heldSlot h with
  | none => (.refused .state, s)
  | some (i, nx) =>
    let s₁ := ((s.rollbackSlot i).bump .migrationsAborted).putLast (settledOutcome h .abortedCancelled nx)
    (.done (byte i.val :: h.bytes ++ byte nx.val :: s₁.afterRollback i), s₁)

/-- DISCARD with its range check (R84). -/
def discardBody (args : List Byte) (s : State) : Reply × State :=
  match homeArgs args with
  | none => (.refused .range, s)
  | some h => discardRow s h

/-- DISCARD (R84). -/
def execDiscard (args : List Byte) (s : State) : Host.Outcome State Fault Refusal :=
  .next (s.runAction .discard args (discardBody args))

/-- ABORT (R86). -/
def abortBody (s : State) : Reply × State :=
  match s.mge.ctx with
  | none => (.refused .state, s)
  | some c =>
    (.done (c.home.bytes ++ [byte c.target.val, byte c.cursor.val]), s.abortMigration .abortedCancelled false)

/-- ABORT (R86). -/
def execAbort (args : List Byte) (s : State) : Host.Outcome State Fault Refusal :=
  .next (s.runAction .abort args abortBody)

/-- MIGRATION_STATUS (R91): MIGRATION is cleared after the payload is formed. -/
def migrationStatusBody (s : State) : Reply × State :=
  (.done (contextPayload s.mge.ctx ++ outcomePayload s.mge.last), s.clearCause .migration)

/-- MIGRATION_STATUS (R91). -/
def execMigrationStatus (args : List Byte) (s : State) : Host.Outcome State Fault Refusal :=
  .next (s.runAction .migrationStatus args migrationStatusBody)

end Sys2Proof.Machine
end

