-- ==== Sys2Proof/Machine/Monitor.lean ====
section
/-! DEFINITION. The decay expiry and the actions of the error monitor (sections 3.3, 3.5, 3.6). -/

namespace Sys2Proof.Machine

/-- DECAY_EXPIRY (R53, R52): ce_counts halved, emptied records removed, the timer restarted. Nothing where
the timer has not run its length since its last start: after a change of the operating decay_interval an
expiry that waited does not happen (R52, log entry 2). -/
def execDecayExpiry (s : State) : Host.Outcome State Fault Refusal :=
  .next
    (if isDue s.emn.decay then
      (s.putSuspects ((s.emn.suspects.map SuspectRecord.decay).filter SuspectRecord.stays)).startDecay
    else s)

/-- SUSPECT_READ (R61). -/
def suspectReadBody (args : List Byte) (s : State) : Reply × State :=
  if 31 < arg args 0 then (.refused .range, s)
  else
    match s.emn.suspects[arg args 0]? with
    | none => (.refused .notFound, s)
    | some r => (.done (suspectPayload (arg args 0) r), s)

/-- SUSPECT_READ (R61). -/
def execSuspectRead (args : List Byte) (s : State) : Host.Outcome State Fault Refusal :=
  .next (s.runAction .suspectRead args (suspectReadBody args))

/-- Whether the row's entry is MOVING. -/
def State.rowMoving (s : State) (h : HomeRow) : Bool := (s.entryOf h).any fun e => e.st.isMoving

/-- The recency position of a home row's record. -/
def State.suspectPosition (s : State) (h : HomeRow) : Nat := s.emn.suspects.findIdx fun r => r.home == h

/-- SUSPECT_CLEAR, checks 2 and 3 of Table 3-6 and the effect (R62). -/
def suspectClear (s : State) (h : HomeRow) : Reply × State :=
  if s.isQueued h || s.rowMoving h then (.refused .state, s)
  else
    match s.suspectOf h with
    | none => (.refused .notFound, s)
    | some r => (.done (suspectPayload (s.suspectPosition h) r), s.dropSuspect h)

/-- SUSPECT_CLEAR with its range check (R62). -/
def suspectClearBody (args : List Byte) (s : State) : Reply × State :=
  match homeArgs args with
  | none => (.refused .range, s)
  | some h => suspectClear s h

/-- SUSPECT_CLEAR (R62). -/
def execSuspectClear (args : List Byte) (s : State) : Host.Outcome State Fault Refusal :=
  .next (s.runAction .suspectClear args (suspectClearBody args))

/-- The records CANDIDATE_LIST lists, in recency order (R63). -/
def State.candidates (s : State) : List SuspectRecord :=
  s.emn.suspects.filter fun r => r.pinned && !s.isQueued r.home && !s.rowMigrating r.home

/-- CANDIDATE_LIST (R63): count, three zero bytes, then per item bank, row and one zero byte (Table 11-7). -/
def candidateListBody (s : State) : Reply × State :=
  (.done ([byte s.candidates.length, 0#8, 0#8, 0#8] ++ s.candidates.flatMap fun r => r.home.bytes ++ [0#8]),
    s.clearCause .candidate)

/-- CANDIDATE_LIST (R63). -/
def execCandidateList (args : List Byte) (s : State) : Host.Outcome State Fault Refusal :=
  .next (s.runAction .candidateList args candidateListBody)

/-- LOSS_READ (R60): the oldest record removed; a capture of DATA_LOSS is released where the list empties
(R161). -/
def lossReadBody (s : State) : Reply × State :=
  match s.emn.losses with
  | [] => (.refused .empty, s)
  | r :: rest =>
    let s₁ := s.setEmn { s.emn with losses := rest }
    (.done (lossPayload r), if rest.isEmpty then s₁.clearCause .dataLoss else s₁)

/-- LOSS_READ (R60). -/
def execLossRead (args : List Byte) (s : State) : Host.Outcome State Fault Refusal :=
  .next (s.runAction .lossRead args lossReadBody)

end Sys2Proof.Machine
end

