-- ==== Sys2Proof/Machine/Resets.lean ====
section
/-! DEFINITION. Commands of the resets (section 10.5). -/

namespace Sys2Proof.Machine

/-- POWER_ON_RESET (R174): every block takes its power-on values, whatever the state of the device. -/
def execPowerOnReset (s : State) : Host.Outcome State Fault Refusal := .next s.powerOnValues

/-- POWER_ON_RESET_END (R174): the supplies are within limits, and RST_n rises where `rise` holds. The reset
in force ends where nothing holds it any more; a low RST_n prolongs it. -/
def execPowerOnResetEnd (s : State) (rise : Bool := false) : Host.Outcome State Fault Refusal :=
  .next ((s.rstRise rise).setRst { s.rst with supplies := true }).releaseReset

/-- RST_N_FALL (R174, R175): starts a device reset; prolongs a reset that is in force. -/
def execRstNFall (s : State) : Host.Outcome State Fault Refusal :=
  let s₁ := s.setPins { s.pins with rstN := false }
  .next (if s.inReset then s₁ else s₁.deviceResetValues .pin none)

/-- DEVICE_RESET_END (R175): RST_n rises where `rise` holds, else the hold has passed. The reset in force ends
where every source that holds it has ended. -/
def execDeviceResetEnd (s : State) (rise : Bool := false) : Host.Outcome State Fault Refusal :=
  .next (s.rstRise rise).releaseReset

/-- DEVICE_RESET (R176): starts a device reset held for 10 µs and writes no result; BAD_LENGTH where the
frame carries argument bytes (R167). Nothing where the frame is not received (R165). -/
def execDeviceReset (args : List Byte) (s : State) : Host.Outcome State Fault Refusal :=
  .next
    (if s.hears then
      if args.length = Action.deviceReset.argLength then
        (s.endCommandFrame (Action.deviceReset.code :: args)).deviceResetValues .action
          (startTimer Config.pulseLength)
      else s.answer Action.deviceReset.code (Action.deviceReset.code :: args) .badLength
    else s.endFrame)

end Sys2Proof.Machine
end

