-- ==== Sys2Proof/Machine/Scrub.lean ====
section
/-! DEFINITION. The scrub interval expiry and the actions of the patrol scrubber (chapter 5). -/

namespace Sys2Proof.Machine

/-- SCRUB_INTERVAL_EXPIRY (R98, R99): the timer restarts with the operating scrub_interval, and a line
begins where none is in hand; nothing where the timer has not run its length since its last start (log
entry 2). -/
def execScrubIntervalExpiry (s : State) : Host.Outcome State Fault Refusal :=
  .next
    (if isDue s.psc.timer then
      let s₁ := s.setPsc { s.psc with timer := startTimer s.operating.scrubInterval }
      if s.psc.line.isSome then s₁ else s₁.beginScrubLine 129
    else s)

/-- SCRUB_START on an IDLE scrubber (R109). -/
def scrubStart (s : State) (zero : Bool) (m : ScrubMode) : Reply × State :=
  match s.psc.state with
  | .running _ => (.refused .state, s)
  | .paused _ => (.refused .state, s)
  | .idle =>
    let s₁ := if zero then s.setPsc { s.psc with cursor := 0 } else s
    let s₂ := if s.dp.link = .up then s₁.runScrubber m else s₁.setPsc { s₁.psc with state := .paused m }
    (.done ([s₂.psc.state.code, m.code] ++ cursorBytes s₂.psc.cursor), s₂)

/-- SCRUB_START: BAD_ARG for a from or mode that names no value, before the state is tested (R109). -/
def scrubStartBody (args : List Byte) (s : State) : Reply × State :=
  match fromArg (arg args 0), scrubModeArg (arg args 1) with
  | some zero, some m => scrubStart s zero m
  | _, _ => (.badArg, s)

/-- SCRUB_START (R109). -/
def execScrubStart (args : List Byte) (s : State) : Host.Outcome State Fault Refusal :=
  .next (s.runAction .scrubStart args (scrubStartBody args))

/-- SCRUB_STOP (R110): the state the payload reports is the one departed from (log entry 15). -/
def scrubStopBody (s : State) : Reply × State :=
  match s.psc.state with
  | .idle => (.refused .state, s)
  | _ =>
    (.done (s.psc.state.code :: cursorBytes s.psc.cursor ++ [scrubPhaseByte s.psc.line]),
      ((s.setPsc { s.psc with state := .idle, timer := none, line := none }).putFifo
        (orphanScrubs s.dp.fifo)).settleStarvation)

/-- SCRUB_STOP (R110). -/
def execScrubStop (args : List Byte) (s : State) : Host.Outcome State Fault Refusal :=
  .next (s.runAction .scrubStop args scrubStopBody)

/-- SCRUB_STATUS (R111): SCRUB_PASS is cleared after the payload is formed. -/
def scrubStatusBody (s : State) : Reply × State :=
  (.done
      ([s.psc.state.code, scrubModeByte s.psc.state] ++ cursorBytes s.psc.cursor ++
        be32 (s.counter .scrubPasses) ++ [scrubPhaseByte s.psc.line]),
    s.clearCause .scrubPass)

/-- SCRUB_STATUS (R111). -/
def execScrubStatus (args : List Byte) (s : State) : Host.Outcome State Fault Refusal :=
  .next (s.runAction .scrubStatus args scrubStatusBody)

end Sys2Proof.Machine
end

