-- ==== Sys2Proof/Machine/Upstream.lean ====
section
/-! DEFINITION. Commands of the upstream port (chapter 7). -/

namespace Sys2Proof.Machine

/-- A protocol error (R124): the request is discarded, a held credit is consumed, LINK is raised. -/
def State.protocolError (s : State) (e : ProtocolError) : State :=
  ((s.setUp { s.up with credits := s.up.credits - 1, lastError := e }).bump .protocolErrors).raise .link

/-- The record a forwarded request makes (Table 7-4). -/
def HostRecord.accepted (kind : ReqKind) (h : HomeRow) (line : Fin 32) (msg : List Byte) : HostRecord where
  kind := kind
  home := h
  line := line
  mask := if kind = .write then requestMask msg else 0#64
  data := if kind = .write then requestData msg else []
  legsIssued := 0
  legsAnswered := 0
  worst := .ok
  readData := none
  orphan := false

/-- A request answered at its acceptance: the credit it spent comes back with the response (R125). -/
def State.answerNow (s : State) (tag : Fin 64) (status : HostStatus) : State :=
  (s.setUp { s.up with credits := s.up.credits - 1 }).respond tag status []

/-- A request forwarded at its acceptance (R126). -/
def State.forwardRequest (s : State) (tag : Fin 64) (r : HostRecord) : State :=
  (s.setUp { s.up with credits := s.up.credits - 1, forward := s.up.forward ++ [tag] }).putRecord tag (some r)

/-- Checks 2 to 6 of Table 7-3 on a request that passed the protocol check. -/
def State.accept (s : State) (tag : Fin 64) (kind : ReqKind) (msg : List Byte) : State :=
  if s.up.gate ≠ .opened then s.answerNow tag .refused
  else
    match homeOfAddress (requestAddress msg) with
    | none => s.answerNow tag .range
    | some (h, line) =>
      if s.dp.link ≠ .up then s.answerNow tag .failed
      else if kind = .write ∧ requestMask msg = 0#64 then s.answerNow tag .ok
      else s.forwardRequest tag (.accepted kind h line msg)

/-- The reason for which a message fails the protocol check, in the order of R124; NONE where it passes.
A message with no byte has no tag that could be in use (log entry 12). -/
def State.protocolCheck (s : State) (msg : List Byte) : ProtocolError :=
  if s.up.link = .down then .notUp
  else if s.up.credits = 0 then .noCredit
  else if (requestTag msg).any fun t => (s.record t).isSome then .tagInUse
  else if requestKind msg = none then .badKind
  else .none

/-- A message received by the upstream link (section 7.3). -/
def State.receive (s : State) (msg : List Byte) : State :=
  match s.protocolCheck msg, requestTag msg, requestKind msg with
  | .none, some tag, some kind => s.accept tag kind msg
  | .none, _, _ => s.protocolError .badKind
  | e, _, _ => s.protocolError e

/-- UPSTREAM_REQUEST (R126, Table 7-3). While a reset is in force or UP_RST_n is low nothing is received
(R123, R174, R175). -/
def execUpstreamRequest (msg : List Byte) (s : State) : Host.Outcome State Fault Refusal :=
  .next (if s.inReset || !s.pins.upRstN then s else s.receive msg)

/-- A record after an upstream link reset: dropped while its tag waits on the forward queue, else an orphan (R134). -/
def orphanRecord (forward : List (Fin 64)) (tag : Fin 64) (r : Option HostRecord) : Option HostRecord :=
  if forward.contains tag then none else r.map fun x => { x with orphan := true }

/-- A HOST entry whose record is orphaned carries the orphan flag (R134, R139). -/
def orphanEntry (forward : List (Fin 64)) (e : FifoEntry) : FifoEntry :=
  match e.hostTag with
  | some tag => if forward.contains tag then e else { e with orphan := true }
  | none => e

/-- UPSTREAM_LINK_RESET (R134, R177): UP_RST_n falls, whatever the state of the device. DESIGN CHOICE (log
entry 23): the gate stays as it is (R133, R134) even where it is DRAINING and the records this reset drops
were the last in the HRT, a removal R131 does not list. -/
def execUpstreamLinkReset (s : State) : Host.Outcome State Fault Refusal :=
  let up :=
    { s.up with
      link := .down
      credits := 0
      hrt := Vector.ofFn fun t => orphanRecord s.up.forward t s.up.hrt[t]
      forward := [] }
  .next
    (((s.setPins { s.pins with upRstN := false }).setUp up).putFifo (s.dp.fifo.map (orphanEntry s.up.forward)))

/-- UP_RST_N_RELEASE (R123): UP_RST_n rises, and the link enters UP where no orphan remains. -/
def execUpRstNRelease (s : State) : Host.Outcome State Fault Refusal :=
  .next (s.setPins { s.pins with upRstN := true }).upstreamEntry

/-- UPSTREAM_LINK_UP (R123): entry to UP where its conditions hold; nothing where they do not (log entry 8). -/
def execUpstreamLinkUp (s : State) : Host.Outcome State Fault Refusal := .next s.upstreamEntry

/-- DRAIN_END (R131): the drain ends where the gate is DRAINING and the HRT empty (log entry 8), as an
upstream link reset can leave it (log entry 23). -/
def execDrainEnd (s : State) : Host.Outcome State Fault Refusal := .next s.drainCheck

/-- GATE_OPEN (R130). -/
def gateOpenBody (s : State) : Reply × State :=
  if s.up.gate = .opened then (.refused .state, s)
  else (.done [Gate.opened.code, s.up.link.code], s.setUp { s.up with gate := .opened })

/-- GATE_OPEN (R130). -/
def execGateOpen (args : List Byte) (s : State) : Host.Outcome State Fault Refusal :=
  .next (s.runAction .gateOpen args gateOpenBody)

/-- GATE_DRAIN (R131). -/
def gateDrainBody (s : State) : Reply × State :=
  if s.up.gate ≠ .opened then (.refused .state, s)
  else
    let g : Gate := if s.hrtEmpty then .closed else .draining
    (.done [g.code, byte s.hrtCount], s.setUp { s.up with gate := g })

/-- GATE_DRAIN (R131). -/
def execGateDrain (args : List Byte) (s : State) : Host.Outcome State Fault Refusal :=
  .next (s.runAction .gateDrain args gateDrainBody)

end Sys2Proof.Machine
end

