-- ==== Sys2Proof/Machine/Dispatch.lean ====
section
/-! DEFINITION. One arm per command. -/

namespace Sys2Proof.Machine

/-- The effect of a command on everything but the queue. -/
def exec (i : Instr) (s : State) : Host.Outcome State Fault Refusal :=
  match i with
  | .upstreamRequest msg => Sys2Proof.Machine.execUpstreamRequest msg s
  | .upstreamLinkReset => Sys2Proof.Machine.execUpstreamLinkReset s
  | .upRstNRelease => Sys2Proof.Machine.execUpRstNRelease s
  | .upstreamLinkUp => Sys2Proof.Machine.execUpstreamLinkUp s
  | .drainEnd => Sys2Proof.Machine.execDrainEnd s
  | .arbiterGrant ready => Sys2Proof.Machine.execArbiterGrant ready s
  | .downstreamAnswer msg => Sys2Proof.Machine.execDownstreamAnswer msg s
  | .responseTimerExpiry => Sys2Proof.Machine.execResponseTimerExpiry s
  | .dpReadyFall => Sys2Proof.Machine.execDpReadyFall s
  | .dpReadyRise => Sys2Proof.Machine.execDpReadyRise s
  | .dpRstPulseEnd => Sys2Proof.Machine.execDpRstPulseEnd s
  | .downstreamLinkUp => Sys2Proof.Machine.execDownstreamLinkUp s
  | .dpReqReadyRise level => Sys2Proof.Machine.execDpReqReadyRise s level
  | .migrationStart => Sys2Proof.Machine.execMigrationStart s
  | .scrubIntervalExpiry => Sys2Proof.Machine.execScrubIntervalExpiry s
  | .decayExpiry => Sys2Proof.Machine.execDecayExpiry s
  | .powerOnReset => Sys2Proof.Machine.execPowerOnReset s
  | .powerOnResetEnd rise => Sys2Proof.Machine.execPowerOnResetEnd s rise
  | .rstNFall => Sys2Proof.Machine.execRstNFall s
  | .deviceResetEnd rise => Sys2Proof.Machine.execDeviceResetEnd s rise
  | .resultFrame n => Sys2Proof.Machine.execResultFrame n s
  | .mgmtFrameError event => Sys2Proof.Machine.execMgmtFrameError event s
  | .unknownAction code args => Sys2Proof.Machine.execUnknownAction code args s
  | .remapLoad args => Sys2Proof.Machine.execRemapLoad args s
  | .remapRead args => Sys2Proof.Machine.execRemapRead args s
  | .remapFind args => Sys2Proof.Machine.execRemapFind args s
  | .spareStatus args => Sys2Proof.Machine.execSpareStatus args s
  | .spareRetire args => Sys2Proof.Machine.execSpareRetire args s
  | .suspectRead args => Sys2Proof.Machine.execSuspectRead args s
  | .suspectClear args => Sys2Proof.Machine.execSuspectClear args s
  | .candidateList args => Sys2Proof.Machine.execCandidateList args s
  | .lossRead args => Sys2Proof.Machine.execLossRead args s
  | .repairRequest args => Sys2Proof.Machine.execRepairRequest args s
  | .repairCancel args => Sys2Proof.Machine.execRepairCancel args s
  | .queueRead args => Sys2Proof.Machine.execQueueRead args s
  | .commit args => Sys2Proof.Machine.execCommit args s
  | .discard args => Sys2Proof.Machine.execDiscard args s
  | .abort args => Sys2Proof.Machine.execAbort args s
  | .migrationStatus args => Sys2Proof.Machine.execMigrationStatus args s
  | .scrubStart args => Sys2Proof.Machine.execScrubStart args s
  | .scrubStop args => Sys2Proof.Machine.execScrubStop args s
  | .scrubStatus args => Sys2Proof.Machine.execScrubStatus args s
  | .gateOpen args => Sys2Proof.Machine.execGateOpen args s
  | .gateDrain args => Sys2Proof.Machine.execGateDrain args s
  | .recover args => Sys2Proof.Machine.execRecover args s
  | .linkStatus args => Sys2Proof.Machine.execLinkStatus args s
  | .alertIdentify args => Sys2Proof.Machine.execAlertIdentify args s
  | .itemRead args => Sys2Proof.Machine.execItemRead args s
  | .itemWrite args => Sys2Proof.Machine.execItemWrite args s
  | .opselWrite value => Sys2Proof.Machine.execOpselWrite value s
  | .wrselWrite value => Sys2Proof.Machine.execWrselWrite value s
  | .profileFieldWrite field value => Sys2Proof.Machine.execProfileFieldWrite field value s
  | .alertEnableWrite value => Sys2Proof.Machine.execAlertEnableWrite value s
  | .dlinkTimeoutWrite value => Sys2Proof.Machine.execDlinkTimeoutWrite value s
  | .counterClear args => Sys2Proof.Machine.execCounterClear args s
  | .resetReport args => Sys2Proof.Machine.execResetReport args s
  | .deviceReset args => Sys2Proof.Machine.execDeviceReset args s

end Sys2Proof.Machine
end

