-- ==== Sys2Proof/Safety.lean ====
section
/-! DEFINITION. What a safe run is: a step that does not stop, and the relations between fields that the spec says always hold. -/

namespace Sys2Proof.Machine

/-- A step that answers a next state. -/
def Completes (o : Host.Outcome State Fault Refusal) : Prop := ∃ t, o = .next t

/-- An invariant kept by every step that answers a next state. -/
def KeptByStep (Inv : State → Prop) : Prop := ∀ s t, Inv s → step s = .next t → Inv t

/-! ## Profiles -/

/-- Every field of both profiles is in its range (R113, Table 6-1). -/
def ProfilesInRange (s : State) : Prop :=
  ∀ i : Fin 2, ∀ f : ProfileField, fieldInRange f ((s.prf.profiles[i]).get f) = true

/-! ## Error monitor and repair queue -/

/-- Counts of a suspect record within Table 3-3. -/
def SuspectRecord.inRange (r : SuspectRecord) : Prop := r.ceCount ≤ 255 ∧ r.ueCount ≤ 15

/-- The suspect list holds at most 32 records, one per home row, with counts in range (R45, Table 3-3);
the loss list at most 8 (R58); the repair queue at most 8 (R66). -/
def ListsBounded (s : State) : Prop :=
  s.emn.suspects.length ≤ 32 ∧
    (s.emn.suspects.map SuspectRecord.home).Nodup ∧
    (∀ r ∈ s.emn.suspects, r.inRange) ∧
    s.emn.losses.length ≤ 8 ∧ s.mge.queue.length ≤ 8

/-! ## Remap table, migration engine and spare pool -/

/-- No two entries have the same home row (R5). -/
def HomesDistinct (s : State) : Prop :=
  ∀ i : Fin 128, ∀ e ∈ s.rmt[i], ∀ j : Fin 128, ∀ e' ∈ s.rmt[j], e.home = e'.home → i = j

/-- An entry is MOVING exactly when the context is busy and names its slot, and a busy context agrees with
its entry on home row and target spare (R7, R74, Table 4-4). -/
def MovingMatchesContext (s : State) : Prop :=
  (∀ i : Fin 128, ∀ e ∈ s.rmt[i], e.st.isMoving = true → ∃ c ∈ s.mge.ctx, c.slot = i) ∧
    ∀ c ∈ s.mge.ctx, ∃ e ∈ s.rmt[c.slot], e.home = c.home ∧ e.st.isMoving = true ∧ e.st.next = some c.target

/-- The queue holds no home row twice and none whose entry is MOVING or HELD (R66). -/
def QueueSettled (s : State) : Prop :=
  (s.mge.queue.map RepairRequest.home).Nodup ∧ ∀ q ∈ s.mge.queue, s.rowMigrating q.home = false

/-- Remap table, migration context and repair queue agree (R5, R7, R66). -/
def RepairCoherent (s : State) : Prop := HomesDistinct s ∧ MovingMatchesContext s ∧ QueueSettled s

/-- An entry names a spare of its bank as current or next. -/
def RemapEntry.names (e : RemapEntry) (bank idx : Fin 16) : Prop :=
  e.home.bank = bank ∧ (e.st.current = some idx ∨ e.st.next = some idx)

/-- A spare is ASSIGNED exactly when it is the current or the next spare of exactly one entry (R29), and
the two spares of an entry differ (R6). -/
def SparesMatchEntries (s : State) : Prop :=
  (∀ bank idx : Fin 16,
      s.spare bank idx = .assigned ↔ ∃ i : Fin 128, ∃ e ∈ s.rmt[i], e.names bank idx) ∧
    (∀ i : Fin 128, ∀ e ∈ s.rmt[i], ∀ j : Fin 128, ∀ e' ∈ s.rmt[j],
      ∀ bank idx : Fin 16, e.names bank idx → e'.names bank idx → i = j) ∧
    ∀ i : Fin 128, ∀ e ∈ s.rmt[i], ∀ x ∈ e.st.current, e.st.next ≠ some x

/-- The fields of a busy context within Table 4-4: cursor 32 exactly in WRITING, the line buffer filled
exactly while the COPY_WRITE is awaited, overtaken only for a line read, at most 15 re-reads of a line and
480 in all, at most 32 poisoned lines. -/
def MigContext.inRange (c : MigContext) : Prop :=
  (c.cursor.val = 32 ↔ c.phase = .writing) ∧
    (c.phase = .reading → c.awaited = .copyRead) ∧
    (c.phase = .writing → c.awaited = .copyWrite) ∧
    (c.buffer.isSome = true ↔ c.phase = .wait ∧ c.awaited = .copyWrite) ∧
    (c.phase = .wait → c.awaited = .copyRead → c.overtaken = false) ∧
    c.lineRetries ≤ 15 ∧
    (c.phase = .writing → c.lineRetries = 0) ∧
    c.totalRetries ≤ 15 * c.cursor.val + c.lineRetries ∧
    c.poisoned ≤ c.cursor.val + (c.buffer.any LineBuffer.poison).toNat ∧
    (c.buffer.any LineBuffer.poison = true → 0 < c.poisoned)

/-- The profiles and the migration context are in range (R113, R74, Table 4-4). -/
def CopyInRange (s : State) : Prop := ProfilesInRange s ∧ ∀ c ∈ s.mge.ctx, c.inRange

/-! ## Patrol scrubber -/

/-- The fields of a scrub line (Table 5-3) at this cursor. -/
def ScrubLine.inRange (l : ScrubLine) (cursor : Fin 33546240) : Prop :=
  l.line = cursor ∧
    (l.recorded.isNone = true ↔ l.phase = .awaitRead) ∧
    (l.buffer.isSome = true ↔ l.phase = .awaitWriteback) ∧
    (l.phase = .awaitRead → l.intervened = false)

/-- Table 5-1 and R96: RUNNING only while the downstream link is UP, the interval timer running exactly
then, a line context only then; and a line is the cursor's (R97, Table 5-3). -/
def ScrubberFollowsLink (s : State) : Prop :=
  (s.psc.state.isRunning = true → s.dp.link = .up) ∧
    (s.psc.timer.isSome = s.psc.state.isRunning) ∧
    (s.psc.line.isSome = true → s.psc.state.isRunning = true) ∧
    ∀ l ∈ s.psc.line, l.inRange s.psc.cursor

/-! ## Downstream port -/

/-- R75, R100, R139: at most one COPY entry and one SCRUB entry; R146, R147: entries only while the link is
UP, the response timer running exactly while there are entries; the reset pulse only in RETRAIN; the
starvation count 0 outside UP. -/
def PortCoherent (s : State) : Prop :=
  s.dp.fifo.countP FifoEntry.isCopy ≤ 1 ∧
    s.dp.fifo.countP FifoEntry.isScrub ≤ 1 ∧
    (s.dp.fifo ≠ [] → s.dp.link = .up) ∧
    s.dp.timer.isSome = !s.dp.fifo.isEmpty ∧
    (s.dp.pulse.isSome = true → s.dp.link = .retrain) ∧
    (s.dp.link ≠ .up → s.dp.starvation = 0)

/-- R143: the starvation count is 0 while no internal requester presents, and never above 255. -/
def StarvationCounted (s : State) : Prop :=
  (s.internalPresents = false → s.dp.starvation = 0) ∧ s.dp.starvation ≤ 255

/-! ## Upstream port -/

/-- Legs of a tag still in the issue FIFO. -/
def State.legsInFlight (s : State) (tag : Fin 64) : Nat :=
  s.dp.fifo.countP fun e => e.hostTag == some tag

/-- A record agrees with the forward queue and the issue FIFO: it waits on the queue with no leg issued, or
has one or two legs issued, one leg in the FIFO for each not yet answered, and at least one of these; every
leg carries the record's orphan flag (R126, R127, R134, R139, Table 7-4). -/
def RecordTracked (s : State) (tag : Fin 64) (r : HostRecord) : Prop :=
  ((tag ∈ s.up.forward ∧ r.legsIssued = 0 ∧ r.legsAnswered = 0 ∧ r.orphan = false) ∨
      (tag ∉ s.up.forward ∧ r.legsAnswered < r.legsIssued ∧ r.legsIssued ≤ 2)) ∧
    s.legsInFlight tag + r.legsAnswered = r.legsIssued ∧
    ∀ e ∈ s.dp.fifo, e.hostTag = some tag → e.orphan = r.orphan

/-- The Host Request Table, the forward queue, the credits, the link and the gate agree (R122, R123, R126,
R130, R134). -/
def HostCoherent (s : State) : Prop :=
  (∀ tag : Fin 64, ∀ r ∈ s.record tag, RecordTracked s tag r) ∧
    (∀ tag : Fin 64, s.record tag = none → tag ∉ s.up.forward ∧ s.legsInFlight tag = 0) ∧
    s.up.forward.Nodup ∧
    (∀ tag : Fin 64, ∀ r ∈ s.record tag, (r.orphan = true ↔ s.up.link = .down)) ∧
    (s.up.link = .down → s.up.credits = 0) ∧
    (s.up.link = .up → s.pins.upRstN = true ∧ s.rst.force = .none) ∧
    s.up.credits + s.hrtCount ≤ 64 ∧
    (s.up.gate = .closed → s.hrtEmpty = true)

/-! ## Alert controller -/

/-- A captured cause is pending and enabled (R159). -/
def CaptureStands (s : State) : Prop :=
  ∀ c ∈ s.alc.capture, s.isPending c = true ∧ s.isEnabled c = true

/-! ## Resets -/

/-- The blocks hold the values that both kinds of reset leave alike, and DP_RST_n is low (R174, R175). What a
device reset keeps (remap table, spares, lists, cursor, counters, last outcome) is left open here. -/
def HoldsResetValues (s : State) : Prop :=
  s.up = UpstreamPort.powerOn ∧
    s.dp = { DownstreamPort.powerOn with pulse := s.dp.pulse } ∧ s.dp.pulse.isSome = true ∧
    s.psc = { s.psc with state := .idle, timer := none, line := none } ∧
    s.emn.decay = none ∧ s.mge.queue = [] ∧ s.mge.ctx = none ∧
    s.prf = ProfileBlock.default ∧ s.alc = AlertController.powerOn ∧
    s.mgp = { ManagementPort.powerOn with frame := s.mgp.frame }

/-- The reset in force agrees with what holds it, with the blocks and with the frame state: no reset is in
force only with RST_n high, the supplies within limits and no hold (R174, R175); a frame is received only
outside a reset (R165, R175). -/
def ResetCoherent (s : State) : Prop :=
  (s.rst.force = .none → s.pins.rstN = true ∧ s.rst.hold = none) ∧
    (s.rst.force = .powerOn → s.rst.hold = none) ∧
    (s.rst.supplies = false → s.rst.force = .powerOn) ∧
    (s.mgp.frame = .receiving → s.rst.force = .none) ∧
    (s.rst.force ≠ .none → HoldsResetValues s)

/-! ## Safe states -/

/-- Every relation of this file. -/
def Coherent (s : State) : Prop :=
  ListsBounded s ∧ RepairCoherent s ∧ SparesMatchEntries s ∧ CopyInRange s ∧ ScrubberFollowsLink s ∧
    PortCoherent s ∧ StarvationCounted s ∧ HostCoherent s ∧ CaptureStands s ∧ ResetCoherent s

/-- Every command that waits is one its own row describes. -/
def QueueWellFormed (s : State) : Prop := ∀ c ∈ s.pending, c.wellFormed = true

end Sys2Proof.Machine
end

