-- ==== Sys2Proof/Certificates/Slice0/Obligations.lean ====
section
/-! DEFINITION. The statements for the provers. -/

namespace Sys2Proof.Claims

open Sys2Proof.Machine

/-- One counter has increased by 1, saturating, and no other has changed (R173). -/
def Counted (s t : State) (k : Counter) : Prop :=
  t.counter k = satInc (s.counter k) ∧ ∀ k', k' ≠ k → t.counter k' = s.counter k'

/-- The action a command's frame names, with its argument bytes, for the rows that carry arguments. -/
def actionOf : Instr → Option (Action × List Byte)
  | .remapLoad a => some (.remapLoad, a)
  | .remapRead a => some (.remapRead, a)
  | .remapFind a => some (.remapFind, a)
  | .spareStatus a => some (.spareStatus, a)
  | .spareRetire a => some (.spareRetire, a)
  | .suspectRead a => some (.suspectRead, a)
  | .suspectClear a => some (.suspectClear, a)
  | .candidateList a => some (.candidateList, a)
  | .lossRead a => some (.lossRead, a)
  | .repairRequest a => some (.repairRequest, a)
  | .repairCancel a => some (.repairCancel, a)
  | .queueRead a => some (.queueRead, a)
  | .commit a => some (.commit, a)
  | .discard a => some (.discard, a)
  | .abort a => some (.abort, a)
  | .migrationStatus a => some (.migrationStatus, a)
  | .scrubStart a => some (.scrubStart, a)
  | .scrubStop a => some (.scrubStop, a)
  | .scrubStatus a => some (.scrubStatus, a)
  | .gateOpen a => some (.gateOpen, a)
  | .gateDrain a => some (.gateDrain, a)
  | .recover a => some (.recover, a)
  | .linkStatus a => some (.linkStatus, a)
  | .alertIdentify a => some (.alertIdentify, a)
  | .itemRead a => some (.itemRead, a)
  | .itemWrite a => some (.itemWrite, a)
  | .counterClear a => some (.counterClear, a)
  | .resetReport a => some (.resetReport, a)
  | .deviceReset a => some (.deviceReset, a)
  | .opselWrite v => some (.itemWrite, 16#8 :: be32 v)
  | .wrselWrite v => some (.itemWrite, 17#8 :: be32 v)
  | .profileFieldWrite f v => some (.itemWrite, fieldNumber f :: be32 v)
  | .alertEnableWrite v => some (.itemWrite, 18#8 :: be32 v)
  | .dlinkTimeoutWrite v => some (.itemWrite, 19#8 :: be32 v)
  | _ => none

/-- A command that is the end of a management frame. -/
def isFrameEnd : Instr → Bool
  | .resultFrame _ | .mgmtFrameError (.rise _) | .unknownAction _ _ => true
  | c => (actionOf c).isSome

/-- A management frame that ends now is received: no reset is in force, and none was at the fall of MG_CS_n or
has started since (R165, R175). -/
abbrev Heard (s : State) : Prop := s.inReset = false ∧ s.mgp.frame ≠ .ignored

/-- A request that passes the protocol check of R124. -/
def PassesProtocol (s : State) (msg : List Byte) (tag : Fin 64) (kind : ReqKind) : Prop :=
  s.inReset = false ∧ s.pins.upRstN = true ∧ s.up.link = .up ∧ s.up.credits ≠ 0 ∧
    requestTag msg = some tag ∧ s.record tag = none ∧ requestKind msg = some kind

/-- The conditions under which an internal requester wins the grant: an issue opportunity, and no host
presenting or the starvation count at starvation_limit (R141, Table 8-4). -/
def InternalTurn (s : State) : Prop :=
  s.dp.link = .up ∧ s.pins.dpReqReady = true ∧
    (s.up.forward = [] ∨ s.operating.starvationLimit ≤ s.dp.starvation)

/-- The response timer after an entry is placed (R146). -/
def timerAfterIssue (s : State) : Option Interval :=
  if s.dp.fifo = [] then some ⟨s.dp.timeout, 0⟩ else s.dp.timer

/-- The response timer after the oldest entry is removed (R146). -/
def timerAfterAnswer (s : State) (rest : List FifoEntry) : Option Interval :=
  if rest = [] then none else some ⟨s.dp.timeout, 0⟩

/-- What a rollback leaves in a slot (R21): an ACTIVE entry as it is, else the entry's state before its
migration. -/
def rolledBack (e : RemapEntry) : Option RemapEntry :=
  match e.st with
  | .active _ => some e
  | .moving cur _ => cur.map fun c => ⟨e.home, .active c⟩
  | .held cur _ => cur.map fun c => ⟨e.home, .active c⟩

/-- R85: what an abort of the migration `c` leaves in the remap table, the spare pool, the error monitor and the
engine, its entry having had the current spare `cur`. -/
def Aborted (s t : State) (c : MigContext) (cur : Option (Fin 16)) (o : MigOutcome) : Prop :=
  t.rmt = s.rmt.set c.slot (cur.map fun x => ⟨c.home, .active x⟩) ∧
    t.spl = { spares := s.spl.spares.set c.home.bank ((s.spl.spares[c.home.bank]).set c.target .free)
              changed := s.spl.changed.set c.home.bank true } ∧
    t.emn = { s.emn with
              suspects := s.emn.suspects.map fun r => if r.home = c.home then { r with pinned := false } else r } ∧
    t.mge = { s.mge with
              ctx := none
              last := some { home := c.home, outcome := o, spare := some c.target, mode := some c.mode
                             origin := some c.origin, poisoned := c.poisoned, retries := c.totalRetries } }

/-- R46, R47, R48: the record that a suspect update puts at position 0, as the pin check finds it, and the
records behind it. -/
def EntersList (s : State) (h : HomeRow) (ue : Bool) (origin : SuspectOrigin) (r : SuspectRecord)
    (rest : List SuspectRecord) : Prop :=
  (∃ x, s.suspectOf h = some x ∧ (rest = s.emn.suspects.filter fun y => y.home ≠ h) ∧
      r = { home := h
            ceCount := if ue then x.ceCount else min 255 (x.ceCount + 1)
            ueCount := if ue then min 15 (x.ueCount + 1) else x.ueCount
            pinned := x.pinned, origin := origin }) ∨
    (s.suspectOf h = none ∧
      r = { home := h, ceCount := if ue then 0 else 1, ueCount := if ue then 1 else 0, pinned := false
            origin := origin } ∧
      (s.emn.suspects.length < 32 ∧ rest = s.emn.suspects ∨
        32 ≤ s.emn.suspects.length ∧
          ∃ front x back, s.emn.suspects = front ++ x :: back ∧ x.pinned = false ∧
            (∀ y ∈ back, y.pinned = true) ∧ rest = front ++ back))

/-- No source holds the reset in force any more (R174, R175). -/
def ResetReleased (s : State) : Prop :=
  s.pins.rstN = true ∧
    (s.rst.force = .powerOn ∧ s.rst.supplies = true ∨
      s.rst.force = .device ∧ ∀ h, s.rst.hold = some h → h.length ≤ h.elapsed)

/-- The cursor of the first line of the `n`th row after the cursor's, past the last row from 0 on (R97). -/
def rowStart (c : Fin 33546240) (n : Nat) : Fin 33546240 := Fin.ofNat 33546240 ((c.val / 32 + n) * 32)

/-- The cursor of the first line of the row that follows, 0 past the last row (R97). -/
def nextRow (c : Fin 33546240) : Fin 33546240 := Fin.ofNat 33546240 ((c.val / 32 + 1) * 32)

/-- The index that follows, 0 past the last (R97). -/
def nextLine (c : Fin 33546240) : Fin 33546240 := Fin.ofNat 33546240 (c.val + 1)

/-- The scrubber's line ended and its cursor moved forward to `c`; a cursor that did not move to a higher
index has wrapped, which counts a pass, raises SCRUB_PASS and ends scrubbing in mode SINGLE (R97, R107). -/
def CursorMoved (s t : State) (c : Fin 33546240) : Prop :=
  (s.psc.cursor < c →
      t.psc = { s.psc with line := none, cursor := c } ∧ t.alc = s.alc ∧
        t.counter .scrubPasses = s.counter .scrubPasses) ∧
    (c ≤ s.psc.cursor →
      t.alc = { s.alc with scrubPass := true } ∧
        t.counter .scrubPasses = satInc (s.counter .scrubPasses) ∧
        (s.psc.state = .running .single →
          t.psc = { state := .idle, timer := none, line := none, cursor := c }) ∧
        (s.psc.state ≠ .running .single → t.psc = { s.psc with line := none, cursor := c }))

end Sys2Proof.Claims

open Sys2Proof Sys2Proof.Machine Sys2Proof.Claims

/-! ## The step and the queue -/

/-- The row's form: a step takes the command at the front of the queue and executes it on the state with
the queue's rest. -/
def Obligations.FrontCommandIsExecuted : Prop :=
  ∀ (s : State) (c : Instr) (rest : List Instr),
    s.pending = c :: rest → step s = exec c { s with pending := rest }

/-- THE MODEL'S CHOICE (log entries 1, 2 and 3; 00_scope.md, Time): a step on an empty queue is one tick of
1 µs. It advances each running timer to at most its length, while a reset is in force only the DP_RST_n
pulse and the hold of DEVICE_RESET, changes nothing else, and queues exactly the events that are due. -/
def Obligations.EmptyQueueTicks : Prop :=
  ∀ s : State, s.pending = [] →
    ∃ t, step s = .next t ∧
      t = { s with
            rst := { s.rst with hold := s.rst.hold.map Interval.tick }
            dp := { s.dp with
                    pulse := s.dp.pulse.map Interval.tick
                    timer := if s.inReset then s.dp.timer else s.dp.timer.map Interval.tick }
            psc := { s.psc with timer := if s.inReset then s.psc.timer else s.psc.timer.map Interval.tick }
            emn := { s.emn with decay := if s.inReset then s.emn.decay else s.emn.decay.map Interval.tick }
            pending := t.pending } ∧
      ∀ c, c ∈ t.pending ↔
        (s.inReset = false ∧
          (c = .responseTimerExpiry ∧ isDue t.dp.timer = true ∨
            c = .scrubIntervalExpiry ∧ isDue t.psc.timer = true ∨
            c = .decayExpiry ∧ isDue t.emn.decay = true ∨
            c = .dpRstPulseEnd ∧ isDue t.dp.pulse = true)) ∨
        (c = .deviceResetEnd false ∧ s.rst.force = .device ∧ isDue t.rst.hold = true ∧ s.pins.rstN = true)

/-- The row's form: a command has its effect on everything but the queue of commands. -/
def Obligations.CommandsLeaveTheQueue : Prop :=
  ∀ (c : Instr) (s t : State), exec c s = .next t → t.pending = s.pending

/-! ## Invariants -/

/-- Every relation of Safety.lean holds at power-on reset (R27, R40, R65, R94, R112, R119, R136, R153, R162). -/
def Obligations.CoherentAtReset : Prop :=
  Coherent State.reset ∧ QueueWellFormed State.reset

/-- R113: each field of both profiles holds a value within its range at all times. -/
def Obligations.ProfilesStayInRange : Prop :=
  KeptByStep ProfilesInRange

/-- R45, R58, R66: the capacities of the suspect list, the loss list and the repair queue, one suspect
record per home row, and the ranges of Table 3-3. -/
def Obligations.ListsStayBounded : Prop :=
  KeptByStep ListsBounded

/-- R5, R7, R66: distinct home rows, MOVING exactly with the busy context, no queued row twice or in
migration. -/
def Obligations.RepairStaysCoherent : Prop :=
  KeptByStep RepairCoherent

/-- R29, R6: a spare is ASSIGNED exactly when it is the current or next spare of exactly one entry. -/
def Obligations.SparesStayMatched : Prop :=
  KeptByStep SparesMatchEntries

/-- Table 4-4: the fields of the migration context keep their ranges and agree with each other. -/
def Obligations.CopyStaysInRange : Prop :=
  KeptByStep CopyInRange

/-- R96, Table 5-1, Table 5-3: RUNNING only while the link is UP, timer and line only then. -/
def Obligations.ScrubberStaysWithLink : Prop :=
  KeptByStep ScrubberFollowsLink

/-- R75, R100, R139, R146, R147: one COPY and one SCRUB entry at most, entries and response timer only
together and only while UP. -/
def Obligations.PortStaysCoherent : Prop :=
  KeptByStep PortCoherent

/-- R143: the starvation count is 0 while no internal requester presents, and at most 255. -/
def Obligations.StarvationStaysCounted : Prop :=
  KeptByStep StarvationCounted

/-- R122, R123, R126, R127, R130, R134: records, queue, legs in flight, credits, link and gate agree. -/
def Obligations.HostStaysCoherent : Prop :=
  KeptByStep HostCoherent

/-- R159: a captured cause is always pending and enabled. -/
def Obligations.CaptureStaysPending : Prop :=
  KeptByStep CaptureStands

/-- Every command that its own row describes completes, in every state whose remap table, context and queue
agree (R66, R72 check 1): no constructor stops. -/
def Obligations.WellFormedCommandsComplete : Prop :=
  ∀ (s : State) (c : Instr), RepairCoherent s → c.wellFormed = true → Completes (exec c s)

/-- From every coherent state whose waiting commands are well formed, a run of any length completes and ends
in such a state. -/
def Obligations.CoherentRunsComplete : Prop :=
  ∀ (n : Nat) (s : State), Coherent s → QueueWellFormed s →
    ∃ t : State, Host.Core.run Sys2Proof.core n s = .next t ∧ Coherent t ∧ QueueWellFormed t

/-! ## Rules over all commands -/

/-- Table 2-2: a RETIRED spare stays RETIRED until power-on reset. -/
def Obligations.RetiredSparesStayRetired : Prop :=
  ∀ (c : Instr) (s t : State), SparesMatchEntries s → exec c s = .next t → c ≠ .powerOnReset →
    ∀ bank idx : Fin 16, s.spare bank idx = .retired → t.spare bank idx = .retired

/-- Table 10-4, R173: only COUNTER_CLEAR and power-on reset lower a counter. -/
def Obligations.CountersOnlyGrow : Prop :=
  ∀ (c : Instr) (s t : State), exec c s = .next t → c ≠ .powerOnReset → (∀ a, c ≠ .counterClear a) →
    ∀ k : Counter, (s.counter k).toNat ≤ (t.counter k).toNat

/-- Sections 7.2 and 10.5: while a power-on or device reset is in force no request is received.
Sections 10.1 and 10.5: the end of a management frame that is not received (a reset is in force, or was at the
fall of MG_CS_n, or has started since) changes nothing but the frame state.
Section 10.2, checks 1 and 2: a frame with the wrong number of argument bytes gets BAD_LENGTH, one whose
code is missing or names no action gets BAD_ACTION, and nothing but the management port changes. -/
def Obligations.BadFramesChangeNothingElse : Prop :=
  (∀ (msg : List Byte) (s : State), s.inReset = true → exec (.upstreamRequest msg) s = .next s) ∧
  (∀ (c : Instr) (s : State), ¬Heard s → isFrameEnd c = true →
    exec c s = .next { s with mgp := { s.mgp with frame := .idle } }) ∧
  (∀ s : State, Heard s →
    (∀ (c : Instr) (a : Action) (args : List Byte),
      actionOf c = some (a, args) → args.length ≠ a.argLength →
        exec c s = .next (s.answer a.code (a.code :: args) .badLength)) ∧
    (∀ args, exec (.unknownAction none args) s = .next (s.answer 0#8 [] .badAction)) ∧
    ∀ (code : Byte) (args : List Byte), (code = 0#8 ∨ 30 ≤ code.toNat) →
      exec (.unknownAction (some code) args) s = .next (s.answer code (code :: args) .badAction))

/-! ## The management port -/

/-- Section 10.3: every COMMAND frame received writes a result with the command sequence number, which then
advances, with the overrun of the buffer as it stood; a DONE payload has 1 to 132 bytes. DEVICE_RESET that
is taken is the exception and leaves the buffer EMPTY and the number 0.
Section 10.1: a COMMAND frame shifts out zeros, and no frame is in progress after its end. THE MODEL'S CHOICE
(log entry 11): the shift buffer keeps the first 16 bytes after the type byte. -/
def Obligations.CommandFramesWriteResults : Prop :=
  ∀ (c : Instr) (a : Action) (args : List Byte) (s : State),
    Heard s → ListsBounded s → actionOf c = some (a, args) →
      ∃ t : State, exec c s = .next t ∧
        t.wires = { s.wires with mgTx := s.wires.mgTx ++ [List.replicate (8 * (args.length + 2)) false] } ∧
        (c ≠ .deviceReset [] →
          ∃ r : Reply,
            t.mgp = { frame := .idle
                      shift := (a.code :: args).take 16
                      buffer := .unread ⟨r, s.mgp.seq, a.code, s.mgp.buffer.isUnread⟩
                      seq := s.mgp.seq + 1#8 } ∧
            ∀ p, r = .done p → 1 ≤ p.length ∧ p.length ≤ 132) ∧
        (c = .deviceReset [] → t.mgp = { frame := .idle, shift := [], buffer := .empty, seq := 0#8 })

/-- Section 10.3 (the second half) and Table 11-5: a RESULT frame of n bytes shifts out a zero byte, the
buffer and zeros; with six bytes or more an UNREAD result becomes READ; nothing else changes. -/
def Obligations.ResultFrameReadsTheBuffer : Prop :=
  ∀ (n : Nat) (s : State), Heard s → 1 ≤ n →
    ∃ t : State, exec (.resultFrame n) s = .next t ∧
      t = { s with wires := t.wires, mgp := { s.mgp with frame := .idle, buffer := t.mgp.buffer } } ∧
      t.wires = { s.wires with
                  mgTx := s.wires.mgTx ++
                    [((0#8 :: resultBytes s.mgp.buffer ++ List.replicate n 0#8).take n).flatMap byteBits] } ∧
      (∀ r, s.mgp.buffer = .unread r → 6 ≤ n → t.mgp.buffer = .read r) ∧
      ((n < 6 ∨ ∀ r, s.mgp.buffer ≠ .unread r) → t.mgp.buffer = s.mgp.buffer)

/-- Section 10.1: a frame begins at a fall of MG_CS_n, and is received where no reset is in force then. THE
MODEL'S CHOICE (log entry 10): the fall is a command of this row, and one in a frame changes nothing.
Section 10.1, Table of R166, cases 1 to 3: a frame with no bit is ignored; a frame with a partial byte, or of an
unknown type, is counted in MGMT_FRAME_ERRORS. What it shifted out has a bit for each bit sampled: zeros in its
first byte and in a COMMAND frame, the result buffer in a RESULT frame, and is open after the first byte of any
other type (log entry 16). THE MODEL'S CHOICES (log entries 11 and 14): the command shift buffer keeps what it held
before a frame error, and any other frame is a command of another row and is refused. -/
def Obligations.FrameErrorsAreCounted : Prop :=
  (∀ s : State,
    (s.mgp.frame = .idle →
      exec (.mgmtFrameError .fall) s =
        .next { s with mgp := { s.mgp with frame := if s.inReset then .ignored else .receiving } }) ∧
    (s.mgp.frame ≠ .idle → exec (.mgmtFrameError .fall) s = .next s)) ∧
  (∀ (bits : List Bool) (s : State), Heard s →
    (bits = [] →
      exec (.mgmtFrameError (.rise bits)) s = .next { s with mgp := { s.mgp with frame := .idle } }) ∧
    (isFrameError bits = true →
      ∃ (t : State) (out : List Bool), exec (.mgmtFrameError (.rise bits)) s = .next t ∧
        Counted s t .mgmtFrameErrors ∧
        t = { s with
              counters := t.counters
              mgp := { s.mgp with frame := .idle }
              wires := { s.wires with mgTx := s.wires.mgTx ++ [out] } } ∧
        out.length = bits.length ∧
        (∀ i : Nat, i < 8 → i < bits.length → out[i]? = some false) ∧
        (firstByte bits = 90#8 → out = List.replicate bits.length false) ∧
        (8 ≤ bits.length → firstByte bits = 165#8 →
          out = ((0#8 :: resultBytes s.mgp.buffer ++ List.replicate bits.length 0#8).flatMap byteBits).take
            bits.length)) ∧
    (bits ≠ [] → isFrameError bits = false → exec (.mgmtFrameError (.rise bits)) s = .refused .otherRow))

/-! ## The upstream port -/

/-- R1, R2, R3: a byte of line `k` of row `r` of bank `b` names that home row and line and no other; every
other 40-bit address is out of range; and the line's host-visible index is the address divided by 64. -/
def Obligations.HostAddressDivision : Prop :=
  (∀ (b : Fin 16) (r : Fin 65520) (k : Fin 32) (x : Fin 64),
    homeOfAddress (r.val * 32768 + b.val * 2048 + k.val * 64 + x.val) = some (⟨b, r⟩, k)) ∧
  (∀ a : Nat, a < 1099511627776 →
    (homeOfAddress a = none ↔ 2147483648 ≤ a ∨ 65520 ≤ a / 32768 % 65536)) ∧
  ∀ (a : Nat) (h : HomeRow) (k : Fin 32) (c : Fin 33546240),
    homeOfAddress a = some (h, k) → (c.val = a / 64 ↔ rowOfLine c = h ∧ indexOfLine c = k)

/-- Section 7.3: a request that fails the protocol check is discarded with the first reason that
holds; it consumes a held credit, is counted, raises LINK, and changes nothing else. THE MODEL'S CHOICE (log
entry 12): a message with no byte, which R124 and R178 do not name, carries no tag and is malformed, BAD_KIND.
Section 7.2: while UP_RST_n is low nothing is received, whether or not a reset is in force. -/
def Obligations.ProtocolErrorDiscardsRequest : Prop :=
  (∀ (s : State) (msg : List Byte), s.pins.upRstN = false → exec (.upstreamRequest msg) s = .next s) ∧
  (∀ (s : State) (msg : List Byte) (e : ProtocolError), s.inReset = false → s.pins.upRstN = true →
    (e = .notUp ∧ s.up.link = .down ∨
      e = .noCredit ∧ s.up.link = .up ∧ s.up.credits = 0 ∨
      e = .tagInUse ∧ s.up.link = .up ∧ s.up.credits ≠ 0 ∧
        (∃ tag, requestTag msg = some tag ∧ (s.record tag).isSome = true) ∨
      e = .badKind ∧ s.up.link = .up ∧ s.up.credits ≠ 0 ∧
        (∀ tag, requestTag msg = some tag → s.record tag = none) ∧ requestKind msg = none) →
    ∃ t : State, exec (.upstreamRequest msg) s = .next t ∧
      t.up = { s.up with credits := s.up.credits - 1, lastError := e } ∧
      Counted s t .protocolErrors ∧ t.alc = { s.alc with link := true } ∧
      t = { s with up := t.up, counters := t.counters, alc := t.alc })

/-- Table 7-3, checks 2 to 5: the status that answers a request at its acceptance; the credit comes back
with the response and no record is made.
Table 7-3, check 6, and Table 7-4: a request that passes every check spends a credit, gets its record
and joins the tail of the forward queue; nothing else changes. -/
def Obligations.RequestAnsweredOrForwarded : Prop :=
  (∀ (s : State) (msg : List Byte) (tag : Fin 64) (kind : ReqKind) (code : Byte),
    PassesProtocol s msg tag kind →
    (code = 4#8 ∧ s.up.gate ≠ .opened ∨
      code = 3#8 ∧ s.up.gate = .opened ∧ homeOfAddress (requestAddress msg) = none ∨
      code = 5#8 ∧ s.up.gate = .opened ∧ homeOfAddress (requestAddress msg) ≠ none ∧ s.dp.link ≠ .up ∨
      code = 0#8 ∧ s.up.gate = .opened ∧ homeOfAddress (requestAddress msg) ≠ none ∧ s.dp.link = .up ∧
        kind = .write ∧ requestMask msg = 0#64) →
    exec (.upstreamRequest msg) s =
      .next { s with wires := { s.wires with upTx := s.wires.upTx ++ [[byte tag.val, code]] } }) ∧
  (∀ (s : State) (msg : List Byte) (tag : Fin 64) (kind : ReqKind) (h : HomeRow) (k : Fin 32),
    PassesProtocol s msg tag kind → s.up.gate = .opened → s.dp.link = .up →
    homeOfAddress (requestAddress msg) = some (h, k) → (kind = .write → requestMask msg ≠ 0#64) →
    exec (.upstreamRequest msg) s =
      .next { s with
        up := { s.up with
                credits := s.up.credits - 1
                forward := s.up.forward ++ [tag]
                hrt := s.up.hrt.set tag
                  (some { kind := kind, home := h, line := k
                          mask := if kind = .write then requestMask msg else 0#64
                          data := if kind = .write then requestData msg else []
                          legsIssued := 0, legsAnswered := 0, worst := .ok, readData := none
                          orphan := false }) } })

/-- Section 7.6: a fall of UP_RST_n takes the link DOWN, drops the queued requests and orphans the issued
ones with their entries; gate, last reason and every other block stay. THE
MODEL'S CHOICE (log entry 23): a DRAINING gate stays also where the dropped requests were the last records.
Section 7.2: at the release of UP_RST_n, and at the event of its entry, the link enters UP with 64
credits where it is DOWN, no reset is in force and the HRT holds no orphan; otherwise the pin alone changes.
THE MODEL'S CHOICES (log entries 8 and 19): the entry is made inside the release, UPSTREAM_LINK_UP changes nothing
where its conditions do not hold, and an edge of UP_RST_n is taken while a power-on reset is in force too. -/
def Obligations.UpstreamLinkResetsAndEntersUp : Prop :=
  (∀ s : State, ∃ t : State, exec .upstreamLinkReset s = .next t ∧
    t = { s with pins := { s.pins with upRstN := false }, up := t.up, dp := { s.dp with fifo := t.dp.fifo } } ∧
    t.up = { s.up with link := .down, credits := 0, forward := [], hrt := t.up.hrt } ∧
    (∀ tag : Fin 64, t.record tag =
      if tag ∈ s.up.forward then none else (s.record tag).map fun r => { r with orphan := true }) ∧
    t.dp.fifo = s.dp.fifo.map fun e =>
      match e.owner with
      | .host tag _ => if tag ∈ s.up.forward then e else { e with orphan := true }
      | _ => e) ∧
  (∀ s : State,
    (s.up.link = .down → s.rst.force = .none → (∀ tag, ∀ r ∈ s.record tag, r.orphan = false) →
      exec .upRstNRelease s =
        .next { s with pins := { s.pins with upRstN := true }, up := { s.up with link := .up, credits := 64 } } ∧
      (s.pins.upRstN = true → exec .upstreamLinkUp s =
        .next { s with up := { s.up with link := .up, credits := 64 } })) ∧
    (s.up.link = .up ∨ s.rst.force ≠ .none ∨ (∃ tag, ∃ r ∈ s.record tag, r.orphan = true) →
      exec .upRstNRelease s = .next { s with pins := { s.pins with upRstN := true } } ∧
      exec .upstreamLinkUp s = .next s) ∧
    (s.pins.upRstN = false → exec .upstreamLinkUp s = .next s))

/-- Section 7.5: GATE_OPEN, GATE_DRAIN and the end of a drain. THE MODEL'S CHOICE (log entry 8): DRAIN_END
changes nothing where its conditions do not hold. -/
def Obligations.GateOpensAndDrains : Prop :=
  ∀ s : State,
    (Heard s →
      (s.up.gate ≠ .opened → exec (.gateOpen []) s =
        .next (State.answer { s with up := { s.up with gate := .opened } } 20#8 [20#8] (.done [1#8, s.up.link.code]))) ∧
      (s.up.gate = .opened → exec (.gateOpen []) s = .next (s.answer 20#8 [20#8] (.refused .state))) ∧
      (s.up.gate ≠ .opened → exec (.gateDrain []) s = .next (s.answer 21#8 [21#8] (.refused .state))) ∧
      (s.up.gate = .opened → (∀ tag, s.record tag = none) → exec (.gateDrain []) s =
        .next (State.answer { s with up := { s.up with gate := .closed } } 21#8 [21#8] (.done [0#8, 0#8]))) ∧
      (s.up.gate = .opened → (∃ tag, s.record tag ≠ none) → exec (.gateDrain []) s =
        .next (State.answer { s with up := { s.up with gate := .draining } } 21#8 [21#8]
          (.done [2#8, byte s.hrtCount])))) ∧
    (s.up.gate = .draining → (∀ tag, s.record tag = none) →
      exec .drainEnd s = .next { s with up := { s.up with gate := .closed } }) ∧
    (s.up.gate ≠ .draining ∨ (∃ tag, s.record tag ≠ none) → exec .drainEnd s = .next s)

/-! ## Arbitration and issue -/

/-- R9: where homes are distinct, the lookup of a home row returns the one entry whose home equals it, and
no entry where none does.
R11, R12, R13, Table 1-4: the legs of a host request by the entry found and the migration cursor. -/
def Obligations.LookupAndTranslation : Prop :=
  (∀ s : State, HomesDistinct s →
    (∀ (i : Fin 128) (e : RemapEntry), s.rmt[i] = some e →
      s.slotOf e.home = some i ∧ s.entryOf e.home = some e) ∧
    ∀ h : HomeRow, (∀ (i : Fin 128) (e : RemapEntry), s.rmt[i] = some e → e.home ≠ h) →
      s.slotOf h = none ∧ s.entryOf h = none) ∧
  (∀ (s : State) (h : HomeRow) (k : Fin 32),
    (s.entryOf h = none → s.currentLoc h = ⟨h.bank, ⟨h.row.val, by omega⟩⟩) ∧
    (∀ e, s.entryOf h = some e →
      (∀ c, e.st.current = some c → s.currentLoc h = ⟨h.bank, ⟨65520 + c.val, by omega⟩⟩) ∧
      (e.st.current = none → s.currentLoc h = ⟨h.bank, ⟨h.row.val, by omega⟩⟩)) ∧
    s.translate .read h k = [(.source, s.currentLoc h)] ∧
    ((s.entryOf h = none ∨
        (∃ e c, s.entryOf h = some e ∧ e.st = .active c) ∨
        ∃ e cur nx, s.entryOf h = some e ∧ e.st = .moving cur nx ∧ s.copyCursor ≤ k.val) →
      s.translate .write h k = [(.source, s.currentLoc h)]) ∧
    ∀ e cur nx, s.entryOf h = some e →
      (e.st = .held cur nx ∨ e.st = .moving cur nx ∧ k.val < s.copyCursor) →
      s.translate .write h k =
        [(.source, s.currentLoc h), (.target, ⟨h.bank, ⟨65520 + nx.val, by omega⟩⟩)])

/-- Sections 8.3 and 8.4: the grant to the host, where no internal requester presents or the starvation
count is below starvation_limit: the head leaves the forward queue, its legs are placed and sent in order,
the write notice reaches both engines, the count follows R143, and nothing else changes. THE MODEL'S CHOICE
(log entry 6): the command's operand is the level of DP_REQ_READY after the grant.
R141: while the link is not UP, DP_REQ_READY is low or no requester presents there is no grant (log entry
7: the command then changes nothing). -/
def Obligations.HostGrantIssuesLegs : Prop :=
  (∀ (s : State) (ready : Bool) (tag : Fin 64) (rest : List (Fin 64)) (r : HostRecord),
    s.dp.link = .up → s.pins.dpReqReady = true → s.up.forward = tag :: rest → s.record tag = some r →
    (s.internalPresents = false ∨ s.dp.starvation < s.operating.starvationLimit) →
    ∃ t : State, exec (.arbiterGrant ready) s = .next t ∧
      t = { s with pins := { s.pins with dpReqReady := ready }, up := t.up, dp := t.dp, wires := t.wires,
                   mge := { s.mge with ctx := t.mge.ctx }, psc := { s.psc with line := t.psc.line } } ∧
      t.up = { s.up with
               forward := rest
               hrt := s.up.hrt.set tag
                 (some { r with legsIssued := (s.translate r.kind r.home r.line).length }) } ∧
      t.dp = { s.dp with
               fifo := s.dp.fifo ++ (s.translate r.kind r.home r.line).map fun l =>
                 ⟨.host tag l.1, r.kind, l.2, r.line, r.home, false⟩
               timer := timerAfterIssue s
               starvation := if s.internalPresents then min 255 (s.dp.starvation + 1) else s.dp.starvation } ∧
      t.wires = { s.wires with
                  dpTx := s.wires.dpTx ++ (s.translate r.kind r.home r.line).map fun l =>
                    match r.kind with
                    | .read => readRequestBytes l.2 r.line
                    | .write => writeRequestBytes l.2 r.line r.mask r.data false } ∧
      t.mge.ctx = s.mge.ctx.map (fun c =>
        if r.kind = .write ∧ c.home = r.home ∧ c.cursor.val = r.line.val ∧
            (c.phase = .reading ∨ (c.phase = .wait ∧ c.awaited = .copyWrite)) then
          { c with overtaken := true }
        else c) ∧
      t.psc.line = s.psc.line.map (fun l =>
        if r.kind = .write ∧ rowOfLine l.line = r.home ∧ indexOfLine l.line = r.line ∧
            (l.phase = .reading ∨ l.phase = .awaitWriteback) then
          { l with intervened := true }
        else l)) ∧
  (∀ (s : State) (ready : Bool),
    (s.dp.link ≠ .up ∨ s.pins.dpReqReady = false ∨ (s.up.forward = [] ∧ s.internalPresents = false)) →
    exec (.arbiterGrant ready) s = .next s)

/-- R76, with Table 8-1 and R143: the grant of the awaited COPY_READ.
R82, with Table 8-1 and R143: the grant of the awaited COPY_WRITE of a line that is not overtaken. THE
MODEL'S CHOICE (log entry 6): the operand is the level of DP_REQ_READY after the grant. -/
def Obligations.CopyRequestsAreIssued : Prop :=
  (∀ (s : State) (ready : Bool) (c : MigContext) (k : Fin 32),
    InternalTurn s → s.mge.ctx = some c → c.phase = .wait → c.awaited = .copyRead → c.cursor.val = k.val →
    (∀ e ∈ s.dp.fifo, e.owner ≠ .copy) →
    exec (.arbiterGrant ready) s =
      .next { s with
        pins := { s.pins with dpReqReady := ready }
        mge := { s.mge with ctx := some { c with phase := .reading, overtaken := false } }
        dp := { s.dp with
                fifo := s.dp.fifo ++ [⟨.copy, .read, c.source, k, c.home, false⟩]
                timer := timerAfterIssue s
                starvation := 0 }
        wires := { s.wires with
                   dpTx := s.wires.dpTx ++
                     [byte c.source.bank.val :: be16 c.source.row.val ++ [byte k.val]] } }) ∧
  (∀ (s : State) (ready : Bool) (c : MigContext) (k : Fin 32) (buf : LineBuffer),
    InternalTurn s → s.mge.ctx = some c → c.phase = .wait → c.awaited = .copyWrite → c.cursor.val = k.val →
    c.overtaken = false → c.buffer = some buf → (∀ e ∈ s.dp.fifo, e.owner ≠ .copy) →
    exec (.arbiterGrant ready) s =
      .next { s with
        pins := { s.pins with dpReqReady := ready }
        mge := { s.mge with
                 ctx := some { c with
                   cursor := ⟨k.val + 1, by omega⟩
                   lineRetries := 0
                   buffer := none
                   phase := if k.val < 31 then .wait else .writing
                   awaited := if k.val < 31 then .copyRead else .copyWrite } }
        dp := { s.dp with
                fifo := s.dp.fifo ++
                  [⟨.copy, .write, ⟨c.home.bank, ⟨65520 + c.target.val, by omega⟩⟩, k, c.home, false⟩]
                timer := timerAfterIssue s
                starvation := 0 }
        wires := { s.wires with
                   dpTx := s.wires.dpTx ++
                     [byte (128 + (if buf.poison then 64 else 0) + c.home.bank.val) ::
                        be16 (65520 + c.target.val) ++ byte k.val :: List.replicate 8 255#8 ++ buf.data] } })

/-- R81 and R78: the grant of an overtaken COPY_WRITE sends nothing and takes a poisoned line out of the
count; below retry_limit the line is read again, counted, and at retry_limit the migration aborts
ABORTED_CONTENDED with MIGRATION raised: its entry is rolled back, its target spare freed with the bank's changed
flag set (R33), the row's record unpinned (R56), and all else of the error monitor kept. THE MODEL'S CHOICE (log
entry 6): the operand is the level of DP_REQ_READY after the grant. -/
def Obligations.OvertakenCopyWriteIsWithdrawn : Prop :=
  ∀ (s : State) (ready : Bool) (c : MigContext) (p : Nat) (cur : Option (Fin 16)),
    InternalTurn s → s.mge.ctx = some c → c.phase = .wait → c.awaited = .copyWrite → c.overtaken = true →
    (∀ e ∈ s.dp.fifo, e.owner ≠ .copy) → s.rmt[c.slot] = some ⟨c.home, .moving cur c.target⟩ →
    p = (if c.buffer.any LineBuffer.poison then c.poisoned - 1 else c.poisoned) →
    ∃ t : State, exec (.arbiterGrant ready) s = .next t ∧
      (c.lineRetries < s.operating.retryLimit →
        Counted s t .copyRetries ∧
        t = { s with
              pins := { s.pins with dpReqReady := ready }
              dp := { s.dp with starvation := 0 }
              mge := { s.mge with
                       ctx := some { c with
                         poisoned := p, lineRetries := c.lineRetries + 1, totalRetries := c.totalRetries + 1
                         overtaken := false, buffer := none, phase := .wait, awaited := .copyRead } }
              counters := t.counters }) ∧
      (s.operating.retryLimit ≤ c.lineRetries →
        Counted s t .migrationsAborted ∧ Aborted s t { c with poisoned := p } cur .abortedContended ∧
        t = { s with
              pins := { s.pins with dpReqReady := ready }
              dp := { s.dp with starvation := 0 }
              rmt := t.rmt, spl := t.spl, emn := t.emn, mge := t.mge
              alc := { s.alc with migration := true }, counters := t.counters })

/-- R101: the grant of the SCRUB_READ of a row with no entry or an ACTIVE one.
R101: the grant of the SCRUB_READ of a row that is MOVING or HELD sends nothing, ends the line and skips
the row, which SKIPPED_ROWS counts. THE MODEL'S CHOICE (log entry 6): the operand is the level of DP_REQ_READY
after the grant. -/
def Obligations.ScrubReadIssuedOrSkipped : Prop :=
  (∀ (s : State) (ready : Bool) (l : ScrubLine) (h : HomeRow) (k : Fin 32),
    InternalTurn s → s.migPresents = false → s.psc.line = some l → l.phase = .awaitRead →
    (∀ e ∈ s.dp.fifo, e.owner ≠ .scrub) → h = rowOfLine l.line → k = indexOfLine l.line →
    s.rowMigrating h = false →
    exec (.arbiterGrant ready) s =
      .next { s with
        pins := { s.pins with dpReqReady := ready }
        psc := { s.psc with
                 line := some { l with
                   phase := .reading
                   recorded := some ⟨s.currentLoc h, (s.entryOf h).isSome⟩ } }
        dp := { s.dp with
                fifo := s.dp.fifo ++ [⟨.scrub, .read, s.currentLoc h, k, h, false⟩]
                timer := timerAfterIssue s
                starvation := 0 }
        wires := { s.wires with dpTx := s.wires.dpTx ++ [readRequestBytes (s.currentLoc h) k] } }) ∧
  (∀ (s : State) (ready : Bool) (l : ScrubLine),
    InternalTurn s → s.migPresents = false → s.psc.line = some l → l.phase = .awaitRead →
    (∀ e ∈ s.dp.fifo, e.owner ≠ .scrub) → s.rowMigrating (rowOfLine l.line) = true →
    ∃ t : State, exec (.arbiterGrant ready) s = .next t ∧
      CursorMoved s t (nextRow s.psc.cursor) ∧
      t.counter .skippedRows = satInc (s.counter .skippedRows) ∧
      (∀ k', k' ≠ .skippedRows → k' ≠ .scrubPasses → t.counter k' = s.counter k') ∧
      t = { s with
            pins := { s.pins with dpReqReady := ready }, dp := { s.dp with starvation := 0 }
            psc := t.psc, alc := t.alc, counters := t.counters })

/-- R105: the grant of the SCRUB_WRITEBACK. It is issued with a full mask and the buffer where no host write
intervened and the row's location and state are the recorded ones; else it is dropped, counted, and the
cursor advances. THE MODEL'S CHOICE (log entry 6): the operand is the level of DP_REQ_READY after the grant. -/
def Obligations.ScrubWritebackIssuedOrDropped : Prop :=
  ∀ (s : State) (ready : Bool) (l : ScrubLine) (h : HomeRow) (k : Fin 32) (loc : Location) (act : Bool)
    (data : List Byte),
    InternalTurn s → s.migPresents = false → s.psc.line = some l → l.phase = .awaitWriteback →
    l.recorded = some ⟨loc, act⟩ → l.buffer = some data → (∀ e ∈ s.dp.fifo, e.owner ≠ .scrub) →
    h = rowOfLine l.line → k = indexOfLine l.line →
    ((l.intervened = false ∧ s.rowMigrating h = false ∧ s.currentLoc h = loc ∧ (s.entryOf h).isSome = act) →
      exec (.arbiterGrant ready) s =
        .next { s with
          pins := { s.pins with dpReqReady := ready }
          psc := { s.psc with line := some { l with phase := .writingBack, buffer := none } }
          dp := { s.dp with
                  fifo := s.dp.fifo ++ [⟨.scrub, .write, loc, k, h, false⟩]
                  timer := timerAfterIssue s
                  starvation := 0 }
          wires := { s.wires with
                     dpTx := s.wires.dpTx ++ [writeRequestBytes loc k fullMask data false] } }) ∧
    ((l.intervened = true ∨ s.rowMigrating h = true ∨ s.currentLoc h ≠ loc ∨ (s.entryOf h).isSome ≠ act) →
      ∃ t : State, exec (.arbiterGrant ready) s = .next t ∧
        CursorMoved s t (nextLine s.psc.cursor) ∧
        t.counter .wbDropped = satInc (s.counter .wbDropped) ∧
        (∀ k', k' ≠ .wbDropped → k' ≠ .scrubPasses → t.counter k' = s.counter k') ∧
        t = { s with
              pins := { s.pins with dpReqReady := ready }, dp := { s.dp with starvation := 0 }
              psc := t.psc, alc := t.alc, counters := t.counters })

/-! ## Answers -/

/-- R128, Table 7-5: an answer to a leg of a record that is no orphan. One that is not the last is counted in
the record, with the worse status and a read's data; the last sends the response, gives the credit back and
ends a drain that waited for it. The status goes to the error monitor, as `attributeHost` gives it. -/
def Obligations.HostLegAnswersRespond : Prop :=
  ∀ (s : State) (msg : List Byte) (e : FifoEntry) (rest : List FifoEntry) (tag : Fin 64) (leg : Leg)
    (r : HostRecord) (st w : AnswerStatus) (data : List Byte),
    s.dp.link = .up → s.dp.fifo = e :: rest → e.owner = .host tag leg → e.orphan = false →
    fitAnswer e.kind msg = some (st, data) → s.record tag = some r → w = r.worst.worse st →
    ∃ u : State, exec (.downstreamAnswer msg) s = .next (u.attributeHost e.home st) ∧
      u = { s with
            dp := { s.dp with fifo := rest, timer := timerAfterAnswer s rest }, wires := u.wires, up := u.up } ∧
      (r.legsAnswered + 1 ≠ r.legsIssued →
        u.wires = s.wires ∧
        u.up = { s.up with
                 hrt := s.up.hrt.set tag
                   (some { r with
                     legsAnswered := r.legsAnswered + 1, worst := w
                     readData := if r.kind = .read ∧ st ≠ .ue then some data else r.readData }) }) ∧
      (r.legsAnswered + 1 = r.legsIssued →
        u.wires = { s.wires with
          upTx := s.wires.upTx ++
            [responseBytes tag w.response
              (if r.kind = .read ∧ w ≠ .ue then
                (if st = .ue then r.readData.getD [] else data)
              else [])] } ∧
        u.up = { s.up with
                 credits := s.up.credits + 1
                 hrt := s.up.hrt.set tag none
                 gate := if s.up.gate = .draining ∧ (∀ t', t' ≠ tag → s.record t' = none) then .closed
                         else s.up.gate })

/-- R135: the answer to a leg of an orphan is counted without a response and still attributed; its last
answer removes the record, which lets the link enter UP and a drain end where it was the last.
R87, R103, R106: the answer to an orphaned COPY or SCRUB entry removes it and is discarded. An answer
that arrives while the link is not UP is discarded whole. -/
def Obligations.OrphanedAnswersAreAbsorbed : Prop :=
  (∀ (s : State) (msg : List Byte) (e : FifoEntry) (rest : List FifoEntry) (tag : Fin 64) (leg : Leg)
    (r : HostRecord) (st : AnswerStatus) (data : List Byte),
    s.dp.link = .up → s.dp.fifo = e :: rest → e.owner = .host tag leg → e.orphan = true →
    fitAnswer e.kind msg = some (st, data) → s.record tag = some r →
    ∃ u : State, exec (.downstreamAnswer msg) s = .next (u.attributeHost e.home st) ∧
      u = { s with dp := { s.dp with fifo := rest, timer := timerAfterAnswer s rest }, up := u.up } ∧
      (r.legsAnswered + 1 ≠ r.legsIssued →
        u.up = { s.up with hrt := s.up.hrt.set tag (some { r with legsAnswered := r.legsAnswered + 1 }) }) ∧
      (r.legsAnswered + 1 = r.legsIssued →
        u.up.hrt = s.up.hrt.set tag none ∧ u.up.forward = s.up.forward ∧ u.up.lastError = s.up.lastError ∧
        u.up.gate =
          (if s.up.gate = .draining ∧ (∀ t', t' ≠ tag → s.record t' = none) then .closed else s.up.gate) ∧
        ((s.up.link = .down ∧ s.pins.upRstN = true ∧ s.rst.force = .none ∧
            ∀ t', t' ≠ tag → ∀ r' ∈ s.record t', r'.orphan = false) →
          u.up.link = .up ∧ u.up.credits = 64) ∧
        ((s.up.link = .up ∨ s.pins.upRstN = false ∨ s.rst.force ≠ .none ∨
            ∃ t', t' ≠ tag ∧ ∃ r' ∈ s.record t', r'.orphan = true) →
          u.up.link = s.up.link ∧ u.up.credits = s.up.credits))) ∧
  (∀ (s : State) (msg : List Byte),
    (∀ (e : FifoEntry) (rest : List FifoEntry),
      s.dp.link = .up → s.dp.fifo = e :: rest → e.owner = .copy ∨ e.owner = .scrub → e.orphan = true →
      fitAnswer e.kind msg ≠ none →
      exec (.downstreamAnswer msg) s =
        .next { s with dp := { s.dp with fifo := rest, timer := timerAfterAnswer s rest } }) ∧
    (s.dp.link ≠ .up → exec (.downstreamAnswer msg) s = .next s))

/-- R78, R79 and R80: the answer to the COPY_READ of a line that is not overtaken fills the line buffer, or
poisons it, counts it and makes a loss record; that of an overtaken line is discarded, and below
retry_limit the line is read again and counted, while at retry_limit the migration aborts ABORTED_CONTENDED with
MIGRATION raised (R85). -/
def Obligations.CopyReadAnswerFillsTheBuffer : Prop :=
  ∀ (s : State) (msg : List Byte) (e : FifoEntry) (rest : List FifoEntry) (c : MigContext)
    (st : AnswerStatus) (data : List Byte),
    s.dp.link = .up → s.dp.fifo = e :: rest → e.owner = .copy → e.kind = .read → e.orphan = false →
    fitAnswer .read msg = some (st, data) → s.mge.ctx = some c → c.phase = .reading →
    (c.overtaken = true → c.lineRetries < s.operating.retryLimit →
      ∃ t : State, exec (.downstreamAnswer msg) s = .next t ∧ Counted s t .copyRetries ∧
        t = { s with
              dp := { s.dp with fifo := rest, timer := timerAfterAnswer s rest }
              mge := { s.mge with
                       ctx := some { c with
                         lineRetries := c.lineRetries + 1, totalRetries := c.totalRetries + 1
                         overtaken := false, buffer := none, phase := .wait, awaited := .copyRead } }
              counters := t.counters }) ∧
    (∀ cur : Option (Fin 16), c.overtaken = true → s.operating.retryLimit ≤ c.lineRetries →
      s.rmt[c.slot] = some ⟨c.home, .moving cur c.target⟩ →
      ∃ t : State, exec (.downstreamAnswer msg) s = .next t ∧ Counted s t .migrationsAborted ∧
        Aborted s t c cur .abortedContended ∧
        t = { s with
              dp := { s.dp with
                      fifo := rest.map fun x => if x.owner = .copy then { x with orphan := true } else x
                      timer := timerAfterAnswer s rest
                      starvation :=
                        if State.scrubPresents { s with dp := { s.dp with fifo := rest } } then s.dp.starvation
                        else 0 }
              rmt := t.rmt, spl := t.spl, emn := t.emn, mge := t.mge
              alc := { s.alc with migration := true }, counters := t.counters }) ∧
    (c.overtaken = false → st ≠ .ue →
      exec (.downstreamAnswer msg) s =
        .next { s with
          dp := { s.dp with fifo := rest, timer := timerAfterAnswer s rest }
          mge := { s.mge with
                   ctx := some { c with
                     buffer := some ⟨data, false⟩, phase := .wait, awaited := .copyWrite } } }) ∧
    (c.overtaken = false → st = .ue →
      ∃ t : State, exec (.downstreamAnswer msg) s = .next t ∧
        t = { s with
              dp := { s.dp with fifo := rest, timer := timerAfterAnswer s rest }
              mge := { s.mge with
                       ctx := some { c with
                         buffer := some ⟨List.replicate 64 0#8, true⟩, phase := .wait, awaited := .copyWrite
                         poisoned := c.poisoned + 1 } }
              emn := t.emn, counters := t.counters } ∧
        t.counter .copyUe = satInc (s.counter .copyUe) ∧
        (∀ k', k' ≠ .copyUe → k' ≠ .lossOverflow → t.counter k' = s.counter k') ∧
        (s.emn.losses.length < 8 →
          t.emn = { s.emn with
                    losses := s.emn.losses ++ [⟨c.home, e.line, .copy, s.emn.lossSeq⟩]
                    lossSeq := s.emn.lossSeq + 1#16 } ∧
          t.counter .lossOverflow = s.counter .lossOverflow) ∧
        (8 ≤ s.emn.losses.length →
          t.emn = { s.emn with lossSeq := s.emn.lossSeq + 1#16 } ∧
          t.counter .lossOverflow = satInc (s.counter .lossOverflow)))

/-- R82: the answer to the COPY_WRITE of a line before 31 only removes its entry. R83: that of line 31 ends
the copy. In mode HOLD the entry becomes HELD; in mode AUTO_COMMIT
it is committed (R20), the old current spare retired (R34), the suspect record removed (R55) and the commit
counted; in both the outcome is recorded, MIGRATION raised and the context idle. -/
def Obligations.EndOfCopySettlesTheEntry : Prop :=
  ∀ (s : State) (msg : List Byte) (e : FifoEntry) (rest : List FifoEntry) (c : MigContext)
    (cur : Option (Fin 16)) (nx : Fin 16) (st : AnswerStatus) (data : List Byte),
    s.dp.link = .up → s.dp.fifo = e :: rest → e.owner = .copy → e.kind = .write → e.orphan = false →
    fitAnswer .write msg = some (st, data) → s.mge.ctx = some c →
    (c.phase ≠ .writing →
      exec (.downstreamAnswer msg) s =
        .next { s with dp := { s.dp with fifo := rest, timer := timerAfterAnswer s rest } }) ∧
    (c.phase = .writing → s.rmt[c.slot] = some ⟨c.home, .moving cur nx⟩ →
    ∃ t : State, exec (.downstreamAnswer msg) s = .next t ∧
      t = { s with
            dp := { s.dp with fifo := rest, timer := timerAfterAnswer s rest }
            rmt := t.rmt, spl := t.spl, emn := { s.emn with suspects := t.emn.suspects }, mge := t.mge
            alc := { s.alc with migration := true }, counters := t.counters } ∧
      t.mge = { s.mge with
                ctx := none
                last := some { home := c.home
                               outcome := if c.mode = .hold then .held else .committed
                               spare := some c.target, mode := some c.mode, origin := some c.origin
                               poisoned := c.poisoned, retries := c.totalRetries } } ∧
      (c.mode = .hold →
        t.rmt = s.rmt.set c.slot (some ⟨c.home, .held cur nx⟩) ∧ t.spl = s.spl ∧
          t.emn.suspects = s.emn.suspects ∧ t.counters = s.counters) ∧
      (c.mode = .autoCommit →
        t.rmt = s.rmt.set c.slot (some ⟨c.home, .active nx⟩) ∧
        Counted s t .migrationsCommitted ∧
        t.emn.suspects = s.emn.suspects.filter (fun r => r.home ≠ c.home) ∧
        (cur = none → t.spl = s.spl) ∧
        ∀ x, cur = some x →
          (∀ b i, t.spare b i = if b = c.home.bank ∧ i = x then .retired else s.spare b i) ∧
            ∀ b : Fin 16, t.spl.changed[b] = (s.spl.changed[b] || b == c.home.bank)))

/-- R103, R104, R106: what ends a scrub line and what holds it for its write-back. The attribution of a
SCRUB_READ (R42) comes before, as `attributeScrub` gives it. -/
def Obligations.ScrubAnswerEndsOrHoldsTheLine : Prop :=
  ∀ (s : State) (msg : List Byte) (e : FifoEntry) (rest : List FifoEntry) (l : ScrubLine)
    (st : AnswerStatus) (data : List Byte) (u : State),
    s.dp.link = .up → s.dp.fifo = e :: rest → e.owner = .scrub → e.orphan = false →
    fitAnswer e.kind msg = some (st, data) → s.psc.line = some l →
    (e.kind = .read → l.phase = .reading) → (e.kind = .write → l.phase = .writingBack) →
    u = (if e.kind = .read then
          State.attributeScrub { s with dp := { s.dp with fifo := rest, timer := timerAfterAnswer s rest } }
            e.home e.line st
        else { s with dp := { s.dp with fifo := rest, timer := timerAfterAnswer s rest } }) →
    ∃ t : State, exec (.downstreamAnswer msg) s = .next t ∧
      ((e.kind = .read ∧ st = .ce ∧ s.operating.scrubWriteback = true) →
        t = { u with
              psc := { s.psc with line := some { l with phase := .awaitWriteback, buffer := some data } } }) ∧
      (¬(e.kind = .read ∧ st = .ce ∧ s.operating.scrubWriteback = true) →
        CursorMoved u t (nextLine s.psc.cursor) ∧
        (∀ k', k' ≠ .scrubPasses → t.counter k' = u.counter k') ∧
        t = { u with psc := t.psc, alc := t.alc, counters := t.counters })

/-- R42, Table 3-2: what an answer to a HOST leg and to a SCRUB_READ counts, with which origin it updates the
suspect list, and the loss record of a SCRUB_READ answered UE (R58); an OK answer changes nothing.
R46, R47, R48: at a suspect update the row's record grows, takes the origin and moves to position 0, or a new one
enters there, the least recently updated unpinned record leaving a full list; with 32 pinned records the update
is dropped and counted.
R49: a record not pinned that meets the threshold or has a UE becomes pinned, which is the candidate event;
otherwise nothing but the list changes.
R50, R51, R67, Table 3-4: a candidate event. -/
def Obligations.SuspectUpdateChangesTheList : Prop :=
  (∀ (s : State) (h : HomeRow) (line : Fin 32),
    s.attributeHost h .ok = s ∧ s.attributeScrub h line .ok = s ∧
    (∃ u : State, Counted s u .hostCe ∧ u = { s with counters := u.counters } ∧
      s.attributeHost h .ce = u.suspectUpdate h false .host) ∧
    (∃ u : State, Counted s u .hostUe ∧ u = { s with counters := u.counters } ∧
      s.attributeHost h .ue = u.suspectUpdate h true .host) ∧
    (∃ u : State, Counted s u .scrubCe ∧ u = { s with counters := u.counters } ∧
      s.attributeScrub h line .ce = u.suspectUpdate h false .scrub) ∧
    ∃ u v t : State, Counted s u .scrubUe ∧ u = { s with counters := u.counters } ∧
      v = u.suspectUpdate h true .scrub ∧ s.attributeScrub h line .ue = t ∧
      (s.emn.losses.length < 8 →
        t = { v with
              emn := { v.emn with
                       losses := s.emn.losses ++ [⟨h, line, .scrub, s.emn.lossSeq⟩]
                       lossSeq := s.emn.lossSeq + 1#16 } }) ∧
      (8 ≤ s.emn.losses.length →
        Counted v t .lossOverflow ∧
        t = { v with
              emn := { v.emn with losses := s.emn.losses, lossSeq := s.emn.lossSeq + 1#16 }
              counters := t.counters })) ∧
  (∀ (s : State) (h : HomeRow) (ue : Bool) (origin : SuspectOrigin) (r : SuspectRecord)
    (rest : List SuspectRecord),
    EntersList s h ue origin r rest →
    (r.pinned = false → s.operating.ceThreshold ≤ r.ceCount ∨ 1 ≤ r.ueCount →
      s.suspectUpdate h ue origin =
        State.candidateEvent { s with emn := { s.emn with suspects := { r with pinned := true } :: rest } } h) ∧
    (r.pinned = true ∨ (r.ceCount < s.operating.ceThreshold ∧ r.ueCount = 0) →
      s.suspectUpdate h ue origin = { s with emn := { s.emn with suspects := r :: rest } })) ∧
  (∀ (s : State) (h : HomeRow) (ue : Bool) (origin : SuspectOrigin),
    s.suspectOf h = none → 32 ≤ s.emn.suspects.length → (∀ x ∈ s.emn.suspects, x.pinned = true) →
    Counted s (s.suspectUpdate h ue origin) .suspectDrops ∧
      s.suspectUpdate h ue origin = { s with counters := (s.suspectUpdate h ue origin).counters }) ∧
  (∀ (s : State) (h : HomeRow),
    ((∃ e, s.entryOf h = some e ∧ (∀ c, e.st ≠ .active c)) ∨ (∃ q ∈ s.mge.queue, q.home = h) →
      s.candidateEvent h = s) ∧
    ((∀ e, s.entryOf h = some e → ∃ c, e.st = .active c) → (∀ q ∈ s.mge.queue, q.home ≠ h) →
      (s.operating.autoRepair = true → s.mge.queue.length < 8 →
        s.candidateEvent h =
          { s with mge := { s.mge with queue := s.mge.queue ++ [⟨h, s.operating.commitMode, .auto⟩] } }) ∧
      (s.operating.autoRepair = false ∨ 8 ≤ s.mge.queue.length →
        s.candidateEvent h = { s with alc := { s.alc with candidate := true } })))

/-! ## Downstream link -/

/-- R148, R149, Table 8-6: the three causes of a fault while the link is UP. Reason, count, LINK, the flush,
FAILED once for each record that is no orphan, in issue order for records with legs issued, then in forward-queue
order (R129), the abort with MIGRATION raised, target freed, record unpinned and losses kept (R85), the pause. -/
def Obligations.FaultSettlesEveryOwner : Prop :=
  ∀ (s : State) (c : Instr) (reason : FaultReason),
    s.dp.link = .up →
    (c = .responseTimerExpiry ∧ isDue s.dp.timer = true ∧ reason = .timeout ∨
      c = .dpReadyFall ∧ reason = .notReady ∨
      ∃ msg, c = .downstreamAnswer msg ∧ reason = .badAnswer ∧
        ∀ e, s.dp.fifo.head? = some e → fitAnswer e.kind msg = none) →
    ∃ (t : State) (tags : List (Fin 64)), exec c s = .next t ∧
      t.dp = { s.dp with link := .fault, lastFault := reason, fifo := [], timer := none, starvation := 0 } ∧
      t.pins = { s.pins with dpReady := if c = .dpReadyFall then false else s.pins.dpReady } ∧
      tags.Nodup ∧ (∀ tag, tag ∈ tags ↔ ∃ r ∈ s.record tag, r.orphan = false) ∧
      (∀ (order : List (Fin 64)) (a b : Fin 64),
        order = (s.dp.fifo.filterMap fun e => match e.owner with | .host tag _ => some tag | _ => none) ++
          s.up.forward →
        a ∈ tags → b ∈ tags → order.idxOf a < order.idxOf b → tags.idxOf a < tags.idxOf b) ∧
      t.wires = { s.wires with upTx := s.wires.upTx ++ tags.map fun tag => [byte tag.val, 5#8] } ∧
      (∀ tag, t.record tag = none) ∧ t.up.forward = [] ∧
      t.up.gate = (if s.up.gate = .draining then .closed else s.up.gate) ∧
      (s.up.link = .up → t.up.link = .up ∧ t.up.credits = s.up.credits + tags.length) ∧
      (s.up.link = .down → s.pins.upRstN = true → s.rst.force = .none →
        t.up.link = .up ∧ t.up.credits = 64) ∧
      t.alc = { s.alc with link := true, migration := s.alc.migration || s.mge.ctx.isSome } ∧
      t.counter .dlinkFaults = satInc (s.counter .dlinkFaults) ∧
      t.counter .migrationsAborted =
        (if s.mge.ctx.isSome then satInc (s.counter .migrationsAborted) else s.counter .migrationsAborted) ∧
      (∀ k', k' ≠ .dlinkFaults → k' ≠ .migrationsAborted → t.counter k' = s.counter k') ∧
      t.mge.ctx = none ∧ t.mge.queue = s.mge.queue ∧
      (s.mge.ctx = none → t.mge.last = s.mge.last ∧ t.rmt = s.rmt ∧ t.spl = s.spl ∧ t.emn = s.emn) ∧
      (∀ m, s.mge.ctx = some m →
        t.mge.last = some { home := m.home, outcome := .abortedDownstream, spare := some m.target
                            mode := some m.mode, origin := some m.origin
                            poisoned := m.poisoned, retries := m.totalRetries }) ∧
      (∀ m e, s.mge.ctx = some m → s.rmt[m.slot] = some e → t.rmt = s.rmt.set m.slot (rolledBack e)) ∧
      (∀ m cur, s.mge.ctx = some m → s.rmt[m.slot] = some ⟨m.home, .moving cur m.target⟩ →
        Aborted s t m cur .abortedDownstream) ∧
      (∀ m, s.psc.state = .running m →
        t.psc = { s.psc with state := .paused m, timer := none, line := none }) ∧
      ((∀ m, s.psc.state ≠ .running m) → t.psc = s.psc) ∧
      t.prf = s.prf ∧ t.mgp = s.mgp ∧ t.rst = s.rst ∧ t.pending = s.pending

/-- R147, R108, R141: the link enters UP at the first moment after the pulse at which DP_READY is high, at
the rise of DP_READY or at the release, and a PAUSED scrubber resumes; an edge of DP_REQ_READY is the level.
THE MODEL'S CHOICES (log entries 2, 6 and 8): an expiry of the response timer, or of the pulse, that has not run its
length since its last start changes nothing, the fall of DP_REQ_READY is an operand of its row, and the entry is made
inside the enabling command. An edge of an input pin is taken while a reset is in force too (log entry 19).
R150: RECOVER is taken in FAULT, where DP_RST_n goes low for 10 µs and the link enters RETRAIN with its
reason kept, and refused in UP and RETRAIN; LINK stays as it was. -/
def Obligations.DownstreamLinkRetrainsAndEntersUp : Prop :=
  (∀ (s : State) (c : Instr) (u : State),
    (c = .dpReadyRise ∧ u = { s with pins := { s.pins with dpReady := true } } ∨
      c = .downstreamLinkUp ∧ u = s ∨
      c = .dpRstPulseEnd ∧ s.inReset = false ∧ isDue s.dp.pulse = true ∧
        u = { s with dp := { s.dp with pulse := none } }) →
    (u.dp.link = .retrain ∧ u.dp.pulse = none ∧ u.pins.dpReady = true →
      exec c s =
        .next { u with
          dp := { u.dp with link := .up }
          psc := match s.psc.state with
                 | .paused m => { s.psc with
                                  state := .running m, timer := some ⟨s.operating.scrubInterval, 0⟩ }
                 | _ => s.psc }) ∧
    (¬(u.dp.link = .retrain ∧ u.dp.pulse = none ∧ u.pins.dpReady = true) → exec c s = .next u)) ∧
  (∀ s : State,
    (s.inReset = true ∨ isDue s.dp.pulse = false → exec .dpRstPulseEnd s = .next s) ∧
    (∀ level, exec (.dpReqReadyRise level) s = .next { s with pins := { s.pins with dpReqReady := level } }) ∧
    (s.dp.link ≠ .up → exec .dpReadyFall s = .next { s with pins := { s.pins with dpReady := false } }) ∧
    (s.dp.link ≠ .up ∨ isDue s.dp.timer = false → exec .responseTimerExpiry s = .next s)) ∧
  (∀ s : State, Heard s →
    (s.dp.link = .fault →
      exec (.recover []) s =
        .next (State.answer { s with dp := { s.dp with link := .retrain, pulse := some ⟨10, 0⟩ } } 22#8 [22#8]
          (.done [2#8, s.dp.lastFault.code]))) ∧
    (s.dp.link ≠ .fault → exec (.recover []) s = .next (s.answer 22#8 [22#8] (.refused .state))))

/-! ## Remap table and spare pool -/

/-- R24 and R25: REMAP_READ of a slot and REMAP_FIND of a home row report the entry and change no state but
the result.
R23, Table 1-7: REMAP_LOAD by the first check that fails, and its effect. -/
def Obligations.RemapEntriesLoadedAndReported : Prop :=
  (∀ (s : State), Heard s →
    (∀ slot : Byte, 127 < slot.toNat →
      exec (.remapRead [slot]) s = .next (s.answer 2#8 [2#8, slot] (.refused .range))) ∧
    (∀ i : Fin 128, s.rmt[i] = none →
      exec (.remapRead [byte i.val]) s = .next (s.answer 2#8 [2#8, byte i.val] (.refused .empty))) ∧
    (∀ (i : Fin 128) (e : RemapEntry), s.rmt[i] = some e →
      exec (.remapRead [byte i.val]) s =
        .next (s.answer 2#8 [2#8, byte i.val]
          (.done [byte i.val, byte e.home.bank.val, byte (e.home.row.val / 256), byte e.home.row.val,
            e.st.code, spareByte e.st.current, spareByte e.st.next]))) ∧
    (∀ b hi lo : Byte, (15 < b.toNat ∨ 65520 ≤ hi.toNat * 256 + lo.toNat) →
      exec (.remapFind [b, hi, lo]) s = .next (s.answer 3#8 [3#8, b, hi, lo] (.refused .range))) ∧
    (∀ h : HomeRow, s.slotOf h = none →
      exec (.remapFind h.bytes) s = .next (s.answer 3#8 (3#8 :: h.bytes) (.refused .notFound))) ∧
    ∀ (h : HomeRow) (i : Fin 128) (e : RemapEntry), s.slotOf h = some i → s.rmt[i] = some e →
      exec (.remapFind h.bytes) s =
        .next (s.answer 3#8 (3#8 :: h.bytes)
          (.done [byte i.val, byte h.bank.val, byte (h.row.val / 256), byte h.row.val,
            e.st.code, spareByte e.st.current, spareByte e.st.next]))) ∧
  (∀ (s : State), Heard s →
    (∀ b hi lo sp : Byte, (15 < b.toNat ∨ 65520 ≤ hi.toNat * 256 + lo.toNat ∨ 15 < sp.toNat) →
      exec (.remapLoad [b, hi, lo, sp]) s = .next (s.answer 1#8 [1#8, b, hi, lo, sp] (.refused .range))) ∧
    ∀ (h : HomeRow) (sp : Fin 16) (sent : List Byte), sent = h.bytes ++ [byte sp.val] →
      (s.up.gate ≠ .closed ∨ s.mge.ctx ≠ none →
        exec (.remapLoad sent) s = .next (s.answer 1#8 (1#8 :: sent) (.refused .state))) ∧
      (s.up.gate = .closed → s.mge.ctx = none →
        (s.slotOf h ≠ none →
          exec (.remapLoad sent) s = .next (s.answer 1#8 (1#8 :: sent) (.refused .duplicate))) ∧
        (s.slotOf h = none → s.spare h.bank sp ≠ .free →
          exec (.remapLoad sent) s = .next (s.answer 1#8 (1#8 :: sent) (.refused .noSpare))) ∧
        (s.slotOf h = none → s.spare h.bank sp = .free → (∀ i : Fin 128, s.rmt[i] ≠ none) →
          exec (.remapLoad sent) s = .next (s.answer 1#8 (1#8 :: sent) (.refused .noEntry))) ∧
        ∀ i : Fin 128, s.slotOf h = none → s.spare h.bank sp = .free → s.rmt[i] = none →
          (∀ j : Fin 128, j < i → s.rmt[j] ≠ none) →
          exec (.remapLoad sent) s =
            .next (State.answer { s with
              rmt := s.rmt.set i (some ⟨h, .active sp⟩)
              spl := { spares := s.spl.spares.set h.bank ((s.spl.spares[h.bank]).set sp .assigned)
                       changed := s.spl.changed.set h.bank true } } 1#8 (1#8 :: sent)
                (.done [byte i.val]))))

/-- R35, Table 2-3: SPARE_RETIRE by the first check that fails, and its effect; the counts are those after
the change.
R37: the report of SPARE_STATUS, bank b at bytes 4b to 4b + 3 with counts that add to 16, and the clearing
of the changed flags and of SPARE_LOW. THE MODEL'S CHOICE (log entry 24): the changed byte is 1 where the flag is set
and 0 where it is clear. -/
def Obligations.SparesAreRetiredAndReported : Prop :=
  (∀ (s : State), Heard s →
    (∀ b i : Byte, (15 < b.toNat ∨ 15 < i.toNat) →
      exec (.spareRetire [b, i]) s = .next (s.answer 5#8 [5#8, b, i] (.refused .range))) ∧
    ∀ (b i : Fin 16) (sent : List Byte), sent = [byte b.val, byte i.val] →
      (s.up.gate ≠ .closed ∨ s.spare b i ≠ .free →
        exec (.spareRetire sent) s = .next (s.answer 5#8 (5#8 :: sent) (.refused .state))) ∧
      (s.up.gate = .closed → s.spare b i = .free →
        exec (.spareRetire sent) s =
          .next (State.answer { s with
            spl := { spares := s.spl.spares.set b ((s.spl.spares[b]).set i .retired)
                     changed := s.spl.changed.set b true } } 5#8 (5#8 :: sent)
              (.done [byte b.val, byte (s.spareCount b .free - 1), byte (s.spareCount b .assigned),
                byte (s.spareCount b .retired + 1)])))) ∧
  (∀ (s : State), Heard s →
    ∃ p : List Byte,
      exec (.spareStatus []) s =
        .next ({ s with
          spl := { s.spl with changed := Vector.replicate 16 false }
          alc := { s.alc with
                   spareLow := false
                   capture := if s.alc.capture = some Cause.spareLow then none else s.alc.capture } }.answer
            4#8 [4#8] (.done p)) ∧
      p.length = 64 ∧
      ∀ b : Fin 16,
        s.spareCount b .free + s.spareCount b .assigned + s.spareCount b .retired = 16 ∧
        (p.drop (4 * b.val)).take 4 =
          [byte (s.spareCount b .free), byte (s.spareCount b .assigned), byte (s.spareCount b .retired),
            if s.spl.changed[b] then 1#8 else 0#8])

/-! ## Error monitor -/

/-- R53, and the restart of R52: a decay expiry, taken where the decay timer has run its length.
R52: a change of the operating decay_interval comes first: after any command that makes one, an expiry that waited
does not happen. THE MODEL'S CHOICE (log entry 2): a DECAY_EXPIRY command finds a timer that has not run its length
since its last start, or does not run, and changes nothing. -/
def Obligations.DecayHalvesUnpinned : Prop :=
  (∀ s : State,
    (isDue s.emn.decay = true →
      exec .decayExpiry s =
        .next { s with
          emn := { s.emn with
                   suspects := s.emn.suspects.filterMap fun r =>
                     if r.pinned then some r
                     else if r.ceCount / 2 = 0 ∧ r.ueCount = 0 then none
                     else some { r with ceCount := r.ceCount / 2 }
                   decay := if s.operating.decayInterval = 0 then none
                            else some ⟨s.operating.decayInterval * 1000000, 0⟩ } }) ∧
    (isDue s.emn.decay = false → exec .decayExpiry s = .next s)) ∧
  (∀ (c : Instr) (s t : State), exec c s = .next t →
    t.operating.decayInterval ≠ s.operating.decayInterval → exec .decayExpiry t = .next t)

/-- R60: LOSS_READ removes and reports the oldest record; a list it empties ends DATA_LOSS and releases a
capture of it; an empty list is refused with EMPTY. -/
def Obligations.LossReadTakesTheOldest : Prop :=
  ∀ s : State, Heard s →
    (s.emn.losses = [] → exec (.lossRead []) s = .next (s.answer 9#8 [9#8] (.refused .empty))) ∧
    ∀ r rest, s.emn.losses = r :: rest →
      ∃ u : State,
        exec (.lossRead []) s =
          .next (u.answer 9#8 [9#8]
            (.done ([byte r.home.bank.val, byte (r.home.row.val / 256), byte r.home.row.val, byte r.line.val,
              r.origin.code] ++ be16 r.seq.toNat))) ∧
        u = { s with
              emn := { s.emn with losses := rest }
              alc := { s.alc with
                       capture := if rest = [] ∧ s.alc.capture = some Cause.dataLoss then none
                                  else s.alc.capture } } ∧
        (u.isPending .dataLoss = true ↔ rest ≠ [])

/-- R61 and R62: SUSPECT_READ by recency position, and SUSPECT_CLEAR by the checks of Table 3-6.
R63: CANDIDATE_LIST lists, in recency order, the pinned records whose rows are neither queued nor MOVING
nor HELD, and clears CANDIDATE. -/
def Obligations.SuspectsAreReadAndCleared : Prop :=
  (∀ s : State, Heard s →
    (∀ i : Byte, 31 < i.toNat →
      exec (.suspectRead [i]) s = .next (s.answer 6#8 [6#8, i] (.refused .range))) ∧
    (∀ i : Byte, i.toNat ≤ 31 → s.emn.suspects.length ≤ i.toNat →
      exec (.suspectRead [i]) s = .next (s.answer 6#8 [6#8, i] (.refused .notFound))) ∧
    (∀ (i : Byte) (r : SuspectRecord), i.toNat ≤ 31 → s.emn.suspects[i.toNat]? = some r →
      exec (.suspectRead [i]) s =
        .next (s.answer 6#8 [6#8, i]
          (.done [i, byte r.home.bank.val, byte (r.home.row.val / 256), byte r.home.row.val, byte r.ceCount,
            byte r.ueCount, flagByte r.pinned, r.origin.code]))) ∧
    (∀ b hi lo : Byte, (15 < b.toNat ∨ 65520 ≤ hi.toNat * 256 + lo.toNat) →
      exec (.suspectClear [b, hi, lo]) s = .next (s.answer 7#8 [7#8, b, hi, lo] (.refused .range))) ∧
    ∀ h : HomeRow,
      ((∃ q ∈ s.mge.queue, q.home = h) ∨ (∃ e cur nx, s.entryOf h = some e ∧ e.st = .moving cur nx) →
        exec (.suspectClear h.bytes) s = .next (s.answer 7#8 (7#8 :: h.bytes) (.refused .state))) ∧
      ((∀ q ∈ s.mge.queue, q.home ≠ h) → (∀ e cur nx, s.entryOf h = some e → e.st ≠ .moving cur nx) →
        ((∀ r ∈ s.emn.suspects, r.home ≠ h) →
          exec (.suspectClear h.bytes) s = .next (s.answer 7#8 (7#8 :: h.bytes) (.refused .notFound))) ∧
        ∀ front r back, s.emn.suspects = front ++ r :: back → r.home = h →
          (∀ x ∈ front ++ back, x.home ≠ h) →
          exec (.suspectClear h.bytes) s =
            .next (State.answer { s with emn := { s.emn with suspects := front ++ back } } 7#8 (7#8 :: h.bytes)
              (.done [byte front.length, byte h.bank.val, byte (h.row.val / 256), byte h.row.val,
                byte r.ceCount, byte r.ueCount, flagByte r.pinned, r.origin.code])))) ∧
  (∀ s : State, Heard s →
    ∃ l : List SuspectRecord,
      exec (.candidateList []) s =
        .next ({ s with
          alc := { s.alc with
                   candidate := false
                   capture := if s.alc.capture = some Cause.candidate then none else s.alc.capture } }.answer
            8#8 [8#8]
            (.done (byte l.length :: 0#8 :: 0#8 :: 0#8 :: l.flatMap fun (r : SuspectRecord) =>
              [byte r.home.bank.val, byte (r.home.row.val / 256), byte r.home.row.val, 0#8]))) ∧
      l.Sublist s.emn.suspects ∧
      ∀ r ∈ s.emn.suspects, r ∈ l ↔
        r.pinned = true ∧ (∀ q ∈ s.mge.queue, q.home ≠ r.home) ∧
          ∀ e, s.entryOf r.home = some e → ∃ c, e.st = .active c)

/-! ## Resets and frames -/

/-- R174, R175, R165: while a reset is in force the blocks hold their reset values and no frame is received; no
reset is in force only with RST_n high, the supplies within limits and no hold. -/
def Obligations.ResetsStayCoherent : Prop :=
  KeptByStep ResetCoherent

/-! ## Repair queue and migration -/

/-- R68 and R70: REPAIR_REQUEST by its checks and its append, and QUEUE_READ.
R69: REPAIR_CANCEL of a queued request, and where it finds neither a request nor the row in migration. -/
def Obligations.RepairRequestsAreQueued : Prop :=
  (∀ s : State, Heard s →
    (∀ b hi lo m : Byte, 1 < m.toNat →
      exec (.repairRequest [b, hi, lo, m]) s = .next (s.answer 10#8 [10#8, b, hi, lo, m] .badArg)) ∧
    (∀ b hi lo m : Byte, m.toNat ≤ 1 → (15 < b.toNat ∨ 65520 ≤ hi.toNat * 256 + lo.toNat) →
      exec (.repairRequest [b, hi, lo, m]) s =
        .next (s.answer 10#8 [10#8, b, hi, lo, m] (.refused .range))) ∧
    (∀ (h : HomeRow) (m : Mode) (sent : List Byte), sent = h.bytes ++ [m.code] →
      ((∃ q ∈ s.mge.queue, q.home = h) →
        exec (.repairRequest sent) s = .next (s.answer 10#8 (10#8 :: sent) (.refused .duplicate))) ∧
      ((∀ q ∈ s.mge.queue, q.home ≠ h) →
        (s.rowMigrating h = true →
          exec (.repairRequest sent) s = .next (s.answer 10#8 (10#8 :: sent) (.refused .state))) ∧
        (s.rowMigrating h = false → 8 ≤ s.mge.queue.length →
          exec (.repairRequest sent) s = .next (s.answer 10#8 (10#8 :: sent) (.refused .full))) ∧
        (s.rowMigrating h = false → s.mge.queue.length < 8 →
          exec (.repairRequest sent) s =
            .next (State.answer { s with mge := { s.mge with queue := s.mge.queue ++ [⟨h, m, .request⟩] } } 10#8
              (10#8 :: sent) (.done [byte s.mge.queue.length, byte (s.mge.queue.length + 1)]))))) ∧
    exec (.queueRead []) s =
      .next (s.answer 12#8 [12#8]
        (.done (byte s.mge.queue.length :: s.mge.queue.flatMap fun q =>
          [byte q.home.bank.val, byte (q.home.row.val / 256), byte q.home.row.val, q.mode.code,
            q.origin.code])))) ∧
  (∀ s : State, Heard s →
    (∀ b hi lo : Byte, (15 < b.toNat ∨ 65520 ≤ hi.toNat * 256 + lo.toNat) →
      exec (.repairCancel [b, hi, lo]) s = .next (s.answer 11#8 [11#8, b, hi, lo] (.refused .range))) ∧
    (∀ (h : HomeRow) (front : List RepairRequest) (q : RepairRequest) (back : List RepairRequest),
      s.mge.queue = front ++ q :: back → q.home = h → (∀ x ∈ front ++ back, x.home ≠ h) →
      exec (.repairCancel h.bytes) s =
        .next (State.answer { s with mge := { s.mge with queue := front ++ back } } 11#8 (11#8 :: h.bytes)
          (.done [0#8, byte h.bank.val, byte (h.row.val / 256), byte h.row.val, q.mode.code, q.origin.code,
            byte front.length]))) ∧
    ∀ h : HomeRow, (∀ q ∈ s.mge.queue, q.home ≠ h) → (∀ c, s.mge.ctx = some c → c.home ≠ h) →
      exec (.repairCancel h.bytes) s = .next (s.answer 11#8 (11#8 :: h.bytes) (.refused .notFound)))

/-- R72, R73, R30, R31: a start of a first migration or a re-migration with a FREE spare in the bank: the
lowest is allocated, the entry is MOVING in its slot, SPARE_LOW is raised below the watermark, the context
is busy.
R72, Table 4-3: a start failure, with the first check that fails; and R71: no start where its conditions
do not hold. THE MODEL'S CHOICE (log entry 18): a head request whose row is MOVING or HELD, which R66 rules
out, is a fault. -/
def Obligations.MigrationStartsOrFails : Prop :=
  (∀ (s : State) (q : RepairRequest) (rest : List RepairRequest) (i : Fin 128) (cur : Option (Fin 16))
    (nx : Fin 16),
    s.mge.queue = q :: rest → s.mge.ctx = none → s.dp.link = .up →
    (cur = none ∧ s.slotOf q.home = none ∧ s.rmt[i] = none ∧ (∀ j : Fin 128, j < i → s.rmt[j] ≠ none) ∨
      ∃ c, cur = some c ∧ s.slotOf q.home = some i ∧ s.rmt[i] = some ⟨q.home, .active c⟩) →
    s.spare q.home.bank nx = .free → (∀ j : Fin 16, j < nx → s.spare q.home.bank j ≠ .free) →
    exec .migrationStart s =
      .next { s with
        rmt := s.rmt.set i (some ⟨q.home, .moving cur nx⟩)
        spl := { spares := s.spl.spares.set q.home.bank ((s.spl.spares[q.home.bank]).set nx .assigned)
                 changed := s.spl.changed.set q.home.bank true }
        alc := { s.alc with
                 spareLow := s.alc.spareLow ||
                   s.spareCount q.home.bank .free - 1 < s.operating.spareWatermark }
        mge := { s.mge with
                 queue := rest
                 ctx := some { slot := i, home := q.home
                               source := match cur with
                                         | some c => ⟨q.home.bank, ⟨65520 + c.val, by omega⟩⟩
                                         | none => ⟨q.home.bank, ⟨q.home.row.val, by omega⟩⟩
                               target := nx, mode := q.mode, origin := q.origin, cursor := 0, phase := .wait
                               awaited := .copyRead, buffer := none, overtaken := false, lineRetries := 0
                               totalRetries := 0, poisoned := 0 } } }) ∧
  (∀ s : State,
    (s.mge.queue = [] ∨ s.mge.ctx ≠ none ∨ s.dp.link ≠ .up → exec .migrationStart s = .next s) ∧
    ∀ q rest, s.mge.queue = q :: rest → s.mge.ctx = none → s.dp.link = .up →
      (∀ o : MigOutcome,
        (o = .noEntry ∧ s.slotOf q.home = none ∧ (∀ i : Fin 128, s.rmt[i] ≠ none) ∨
          o = .noSpare ∧ (s.slotOf q.home = none ∧ (∃ i : Fin 128, s.rmt[i] = none) ∨
              ∃ i c, s.slotOf q.home = some i ∧ s.rmt[i] = some ⟨q.home, .active c⟩) ∧
            (∀ j : Fin 16, s.spare q.home.bank j ≠ .free)) →
        exec .migrationStart s =
          .next { s with
            emn := { s.emn with
                     suspects := s.emn.suspects.map fun r =>
                       if r.home = q.home then { r with pinned := false } else r }
            alc := { s.alc with migration := true }
            mge := { queue := rest, ctx := none
                     last := some { home := q.home, outcome := o, spare := none, mode := some q.mode
                                    origin := some q.origin, poisoned := 0, retries := 0 } } }) ∧
      (∀ i h' cur nx, s.slotOf q.home = some i →
        (s.rmt[i] = some ⟨h', .moving cur nx⟩ ∨ s.rmt[i] = some ⟨h', .held cur nx⟩) →
        exec .migrationStart s = .fault .queuedRowInMigration))

/-- R84, R20, R34, R55: COMMIT of a HELD row, and where it is refused.
R84, R21, R33, R56: DISCARD of a HELD row, and where it is refused. -/
def Obligations.HeldRowsAreSettled : Prop :=
  (∀ s : State, Heard s →
    (∀ b hi lo : Byte, (15 < b.toNat ∨ 65520 ≤ hi.toNat * 256 + lo.toNat) →
      exec (.commit [b, hi, lo]) s = .next (s.answer 13#8 [13#8, b, hi, lo] (.refused .range))) ∧
    (∀ h : HomeRow, (∀ e cur nx, s.entryOf h = some e → e.st ≠ .held cur nx) →
      exec (.commit h.bytes) s = .next (s.answer 13#8 (13#8 :: h.bytes) (.refused .state))) ∧
    ∀ (h : HomeRow) (i : Fin 128) (cur : Option (Fin 16)) (nx : Fin 16),
      s.slotOf h = some i → s.rmt[i] = some ⟨h, .held cur nx⟩ →
      ∃ u : State,
        exec (.commit h.bytes) s =
          .next (u.answer 13#8 (13#8 :: h.bytes)
            (.done [byte i.val, byte h.bank.val, byte (h.row.val / 256), byte h.row.val, 3#8, byte nx.val,
              255#8])) ∧
        u = { s with
              rmt := s.rmt.set i (some ⟨h, .active nx⟩), spl := u.spl
              emn := { s.emn with suspects := s.emn.suspects.filter fun r => r.home ≠ h }
              mge := { s.mge with
                       last := some { home := h, outcome := .committed, spare := some nx, mode := none
                                      origin := none, poisoned := 0, retries := 0 } }
              counters := u.counters } ∧
        Counted s u .migrationsCommitted ∧
        (cur = none → u.spl = s.spl) ∧
        ∀ x, cur = some x →
          u.spl = { spares := s.spl.spares.set h.bank ((s.spl.spares[h.bank]).set x .retired)
                    changed := s.spl.changed.set h.bank true }) ∧
  (∀ s : State, Heard s →
    (∀ b hi lo : Byte, (15 < b.toNat ∨ 65520 ≤ hi.toNat * 256 + lo.toNat) →
      exec (.discard [b, hi, lo]) s = .next (s.answer 14#8 [14#8, b, hi, lo] (.refused .range))) ∧
    (∀ h : HomeRow, (∀ e cur nx, s.entryOf h = some e → e.st ≠ .held cur nx) →
      exec (.discard h.bytes) s = .next (s.answer 14#8 (14#8 :: h.bytes) (.refused .state))) ∧
    ∀ (h : HomeRow) (i : Fin 128) (cur : Option (Fin 16)) (nx : Fin 16),
      s.slotOf h = some i → s.rmt[i] = some ⟨h, .held cur nx⟩ →
      ∃ u : State,
        exec (.discard h.bytes) s =
          .next (u.answer 14#8 (14#8 :: h.bytes)
            (.done [byte i.val, byte h.bank.val, byte (h.row.val / 256), byte h.row.val, byte nx.val,
              if cur = none then 0#8 else 3#8, spareByte cur])) ∧
        u = { s with
              rmt := s.rmt.set i (cur.map fun c => ⟨h, .active c⟩)
              spl := { spares := s.spl.spares.set h.bank ((s.spl.spares[h.bank]).set nx .free)
                       changed := s.spl.changed.set h.bank true }
              emn := { s.emn with
                       suspects := s.emn.suspects.map fun r =>
                         if r.home = h then { r with pinned := false } else r }
              mge := { s.mge with
                       last := some { home := h, outcome := .abortedCancelled, spare := some nx, mode := none
                                      origin := none, poisoned := 0, retries := 0 } }
              counters := u.counters } ∧
        Counted s u .migrationsAborted)

/-- R85, R86 and the second case of R69: ABORT, and REPAIR_CANCEL of the row in migration, roll the entry
back, free the target, unpin the record, orphan the COPY entry, record ABORTED_CANCELLED and count it,
without raising MIGRATION. -/
def Obligations.AbortRollsBackTheMigration : Prop :=
  ∀ s : State, Heard s →
    (s.mge.ctx = none → exec (.abort []) s = .next (s.answer 15#8 [15#8] (.refused .state))) ∧
    ∀ (c : MigContext) (cur : Option (Fin 16)), s.mge.ctx = some c →
      s.rmt[c.slot] = some ⟨c.home, .moving cur c.target⟩ →
      ∃ u : State,
        exec (.abort []) s =
          .next (u.answer 15#8 [15#8]
            (.done [byte c.home.bank.val, byte (c.home.row.val / 256), byte c.home.row.val,
              byte c.target.val, byte c.cursor.val])) ∧
        ((∀ q ∈ s.mge.queue, q.home ≠ c.home) →
          exec (.repairCancel c.home.bytes) s =
            .next (u.answer 11#8 (11#8 :: c.home.bytes)
              (.done [1#8, byte c.home.bank.val, byte (c.home.row.val / 256), byte c.home.row.val,
                c.mode.code, c.origin.code, 255#8]))) ∧
        u = { s with
              rmt := s.rmt.set c.slot (cur.map fun x => ⟨c.home, .active x⟩)
              spl := { spares := s.spl.spares.set c.home.bank
                         ((s.spl.spares[c.home.bank]).set c.target .free)
                       changed := s.spl.changed.set c.home.bank true }
              emn := { s.emn with
                       suspects := s.emn.suspects.map fun r =>
                         if r.home = c.home then { r with pinned := false } else r }
              mge := { s.mge with
                       ctx := none
                       last := some { home := c.home, outcome := .abortedCancelled, spare := some c.target
                                      mode := some c.mode, origin := some c.origin
                                      poisoned := c.poisoned, retries := c.totalRetries } }
              dp := { s.dp with
                      fifo := s.dp.fifo.map fun e => if e.owner = .copy then { e with orphan := true } else e
                      starvation := if s.scrubPresents then s.dp.starvation else 0 }
              counters := u.counters } ∧
        Counted s u .migrationsAborted

/-! ## Patrol scrubber -/

/-- R98 and R99: an expiry restarts the interval with the operating scrub_interval; with a line in hand it
begins nothing; else a line begins at the cursor where its row is neither MOVING nor HELD. THE MODEL'S CHOICE
(log entry 2): an expiry of a timer that has not run its length since its last start changes nothing.
R99, R107: with no line in hand, an expiry skips the rows in migration, where homes are distinct the first `n`
rows in cursor order, at most 128, each counted once. The line begins at the cursor where `n` is 0, else at the
first line of the first row that is neither MOVING nor HELD. A wrap, exactly where the skips pass the last row,
counts one pass and raises SCRUB_PASS, and in mode SINGLE leaves the scrubber IDLE at cursor 0 with no line begun
and no row past the last tested. -/
def Obligations.ScrubIntervalBeginsALine : Prop :=
  (∀ s : State,
    (isDue s.psc.timer = false → exec .scrubIntervalExpiry s = .next s) ∧
    (isDue s.psc.timer = true → s.psc.line ≠ none →
      exec .scrubIntervalExpiry s =
        .next { s with psc := { s.psc with timer := some ⟨s.operating.scrubInterval, 0⟩ } }) ∧
    (∀ m, s.psc.state = .running m → isDue s.psc.timer = true → s.psc.line = none →
      s.rowMigrating (rowOfLine s.psc.cursor) = false →
      exec .scrubIntervalExpiry s =
        .next { s with
          psc := { s.psc with
                   timer := some ⟨s.operating.scrubInterval, 0⟩
                   line := some { phase := .awaitRead, line := s.psc.cursor, recorded := none
                                  intervened := false, buffer := none } } })) ∧
  (∀ (s : State) (m : ScrubMode), HomesDistinct s → s.psc.state = .running m → isDue s.psc.timer = true →
    s.psc.line = none →
    ∃ (t : State) (n : Nat) (cur : Fin 33546240), exec .scrubIntervalExpiry s = .next t ∧
      cur = (if n = 0 then s.psc.cursor else rowStart s.psc.cursor n) ∧
      n ≤ 128 ∧ (∀ j, j < n → s.rowMigrating (rowOfLine (rowStart s.psc.cursor j)) = true) ∧
      t.counter .skippedRows = satInc^[n] (s.counter .skippedRows) ∧
      (∀ k', k' ≠ .skippedRows → k' ≠ .scrubPasses → t.counter k' = s.counter k') ∧
      t = { s with psc := t.psc, counters := t.counters, alc := t.alc } ∧
      (s.psc.cursor.val / 32 + n < 1048320 →
        t.alc = s.alc ∧ t.counter .scrubPasses = s.counter .scrubPasses) ∧
      (1048320 ≤ s.psc.cursor.val / 32 + n →
        t.alc = { s.alc with scrubPass := true } ∧
        t.counter .scrubPasses = satInc (s.counter .scrubPasses)) ∧
      ((m = .continuous ∨ s.psc.cursor.val / 32 + n < 1048320) →
        s.rowMigrating (rowOfLine cur) = false ∧
        t.psc = { state := .running m, cursor := cur, timer := some ⟨s.operating.scrubInterval, 0⟩
                  line := some { phase := .awaitRead, line := cur, recorded := none, intervened := false
                                 buffer := none } }) ∧
      (m = .single → 1048320 ≤ s.psc.cursor.val / 32 + n →
        s.psc.cursor.val / 32 + n = 1048320 ∧
        t.psc = { state := .idle, cursor := 0, timer := none, line := none }))

/-- R109 and R110: SCRUB_START and SCRUB_STOP. THE MODEL'S CHOICE (log entry 15): the state that SCRUB_STOP
reports is the one it departs from. -/
def Obligations.ScrubStartsAndStops : Prop :=
  ∀ s : State, Heard s →
    (∀ f m : Byte, (1 < f.toNat ∨ 1 < m.toNat) →
      exec (.scrubStart [f, m]) s = .next (s.answer 17#8 [17#8, f, m] .badArg)) ∧
    (∀ f m : Byte, f.toNat ≤ 1 → m.toNat ≤ 1 → s.psc.state ≠ .idle →
      exec (.scrubStart [f, m]) s = .next (s.answer 17#8 [17#8, f, m] (.refused .state))) ∧
    (∀ (f : Byte) (m : ScrubMode) (cur : Fin 33546240), f.toNat ≤ 1 → s.psc.state = .idle →
      cur = (if f = 1#8 then 0 else s.psc.cursor) →
      (s.dp.link = .up →
        exec (.scrubStart [f, m.code]) s =
          .next (State.answer { s with
            psc := { s.psc with
                     state := .running m, cursor := cur
                     timer := some ⟨s.operating.scrubInterval, 0⟩ } } 17#8 [17#8, f, m.code]
              (.done ([1#8, m.code] ++ be32 (BitVec.ofNat 32 cur.val))))) ∧
      (s.dp.link ≠ .up →
        exec (.scrubStart [f, m.code]) s =
          .next (State.answer { s with psc := { s.psc with state := .paused m, cursor := cur } } 17#8
            [17#8, f, m.code] (.done ([2#8, m.code] ++ be32 (BitVec.ofNat 32 cur.val)))))) ∧
    (s.psc.state = .idle → exec (.scrubStop []) s = .next (s.answer 18#8 [18#8] (.refused .state))) ∧
    (s.psc.state ≠ .idle →
      exec (.scrubStop []) s =
        .next (State.answer { s with
          psc := { s.psc with state := .idle, timer := none, line := none }
          dp := { s.dp with
                  fifo := s.dp.fifo.map fun e => if e.owner = .scrub then { e with orphan := true } else e
                  starvation := if s.migPresents then s.dp.starvation else 0 } } 18#8 [18#8]
            (.done (s.psc.state.code :: be32 (BitVec.ofNat 32 s.psc.cursor.val) ++
              [match s.psc.line with | some l => l.phase.code | none => 255#8]))))

/-! ## Alerts, status reports, items and counters -/

/-- R91, R111, R151 with R156 and R161: the three status actions report the state as it stands, then clear
their cause and release a capture of it.
R173 and R176: COUNTER_CLEAR reports the 16 counters in the order of Table 10-4 and clears them;
RESET_REPORT reports the last reset kind, part code 2216 and design step 1. -/
def Obligations.StatusActionsReportAndClear : Prop :=
  (∀ s : State, Heard s →
    exec (.linkStatus []) s =
      .next (State.answer { s with
        alc := { s.alc with
                 link := false
                 capture := if s.alc.capture = some Cause.link then none else s.alc.capture } } 23#8 [23#8]
          (.done [s.dp.link.code, s.dp.lastFault.code, if s.pins.dpReady then 1#8 else 0#8, s.up.link.code,
            s.up.lastError.code])) ∧
    exec (.migrationStatus []) s =
      .next ({ s with
        alc := { s.alc with
                 migration := false
                 capture := if s.alc.capture = some Cause.migration then none else s.alc.capture } }.answer
          16#8 [16#8] (.done (contextPayload s.mge.ctx ++ outcomePayload s.mge.last))) ∧
    exec (.scrubStatus []) s =
      .next ({ s with
        alc := { s.alc with
                 scrubPass := false
                 capture := if s.alc.capture = some Cause.scrubPass then none else s.alc.capture } }.answer
          19#8 [19#8]
          (.done ([s.psc.state.code,
              match s.psc.state with | .idle => 255#8 | .running m => m.code | .paused m => m.code] ++
            be32 (BitVec.ofNat 32 s.psc.cursor.val) ++ be32 (s.counter .scrubPasses) ++
            [match s.psc.line with | some l => l.phase.code | none => 255#8])))) ∧
  (∀ s : State, Heard s →
    (∃ p : List Byte,
      exec (.counterClear []) s =
        .next (State.answer { s with counters := Vector.replicate 16 0#32 } 27#8 [27#8] (.done p)) ∧
      p.length = 64 ∧
      ∀ k : Counter, (p.drop (4 * k.index.val)).take 4 = be32 (s.counter k)) ∧
    exec (.resetReport []) s =
      .next (s.answer 28#8 [28#8] (.done [s.rst.last.code, 8#8, 168#8, 1#8])))

/-- R159: ALERT_IDENTIFY captures the enabled pending cause of highest priority where nothing is captured, a
standing capture stands, and the payload is taken after that step.
R158: ALERT_n is low exactly while at least one enabled cause is pending. -/
def Obligations.AlertIdentifyCaptures : Prop :=
  (∀ s : State, Heard s →
    ∃ (c : Option Cause) (p : Byte),
      exec (.alertIdentify []) s =
        .next (State.answer { s with alc := { s.alc with capture := c } } 24#8 [24#8]
          (.done [match c with | none => 0#8 | some x => byte (x.bit + 1), p, s.alc.enable.zeroExtend 8])) ∧
      (∀ x : Cause, p.getLsbD x.bit = s.isPending x) ∧ p.toNat < 64 ∧
      (s.alc.capture ≠ none → c = s.alc.capture) ∧
      (s.alc.capture = none →
        (∀ x, c = some x → s.isPending x = true ∧ s.isEnabled x = true ∧
          ∀ y : Cause, y.bit < x.bit → ¬(s.isPending y = true ∧ s.isEnabled y = true)) ∧
        (c = none → ∀ y : Cause, ¬(s.isPending y = true ∧ s.isEnabled y = true)))) ∧
  (∀ s : State, s.alertN = false ↔ ∃ c : Cause, s.isPending c = true ∧ s.isEnabled c = true)

/-- R171 and R172 on every item number: ITEM_READ returns the item's value and changes nothing but the
result; ITEM_WRITE refuses an unknown item, then a read-only item, then a value out of range, and an
accepted write holds the value. THE MODEL'S CHOICE (log entry 25): no item reports the migration cursor, which R24
gives to migration items that the tables do not list. -/
def Obligations.ItemsAreReadAndWritten : Prop :=
  ∀ (s : State) (n : Byte) (v : Word32) (sent : List Byte), Heard s → sent = n :: be32 v →
    (itemOf n.toNat = none →
      exec (.itemRead [n]) s = .next (s.answer 25#8 [25#8, n] .badArg) ∧
      exec (.itemWrite sent) s = .next (s.answer 26#8 (26#8 :: sent) .badArg)) ∧
    ∀ it, itemOf n.toNat = some it →
      exec (.itemRead [n]) s = .next (s.answer 25#8 [25#8, n] (.done (n :: be32 (s.itemValue it)))) ∧
      (32 ≤ n.toNat →
        exec (.itemWrite sent) s = .next (s.answer 26#8 (26#8 :: sent) (.refused .readOnly))) ∧
      (n.toNat < 32 →
        (s.writeValue it v = none →
          exec (.itemWrite sent) s = .next (s.answer 26#8 (26#8 :: sent) .badArg)) ∧
        ∀ u, s.writeValue it v = some u →
          u.itemValue it = v ∧
          exec (.itemWrite sent) s = .next (u.answer 26#8 (26#8 :: sent) (.done (n :: be32 v))))

/-- R114, R115, R116, R52: the writes of OPSEL, WRSEL and a profile field. Out of range is BAD_ARG and
changes nothing; an accepted write sets the one selector or the one field of the profile WRSEL names, and
the decay timer restarts or stops where the operating decay_interval changes.
R157, R161 and R152: the writes of ALERT_ENABLE and DLINK_TIMEOUT. -/
def Obligations.SettingWritesTakeEffect : Prop :=
  (∀ (s : State) (v : Word32) (f : ProfileField), Heard s →
    (2 ≤ v.toNat →
      exec (.opselWrite v) s = .next (s.answer 26#8 (26#8 :: 16#8 :: be32 v) .badArg) ∧
      exec (.wrselWrite v) s = .next (s.answer 26#8 (26#8 :: 17#8 :: be32 v) .badArg)) ∧
    ((v.toNat < fieldMin f ∨ fieldMax f < v.toNat) →
      exec (.profileFieldWrite f v) s =
        .next (s.answer 26#8 (26#8 :: fieldNumber f :: be32 v) .badArg)) ∧
    (∀ i : Fin 2, v.toNat = i.val →
      exec (.wrselWrite v) s =
        .next (State.answer { s with prf := { s.prf with wrsel := i } } 26#8 (26#8 :: 17#8 :: be32 v)
          (.done (17#8 :: be32 v))) ∧
      ∃ u : State,
        exec (.opselWrite v) s = .next (u.answer 26#8 (26#8 :: 16#8 :: be32 v) (.done (16#8 :: be32 v))) ∧
        u = { s with prf := { s.prf with opsel := i }, emn := { s.emn with decay := u.emn.decay } } ∧
        u.emn.decay =
          (if u.operating.decayInterval = s.operating.decayInterval then s.emn.decay
            else if u.operating.decayInterval = 0 then none
            else some ⟨u.operating.decayInterval * 1000000, 0⟩)) ∧
    (fieldMin f ≤ v.toNat → v.toNat ≤ fieldMax f →
      ∃ u : State,
        exec (.profileFieldWrite f v) s =
          .next (u.answer 26#8 (26#8 :: fieldNumber f :: be32 v) (.done (fieldNumber f :: be32 v))) ∧
        u = { s with prf := { s.prf with profiles := u.prf.profiles }
                     emn := { s.emn with decay := u.emn.decay } } ∧
        (∀ (i : Fin 2) (g : ProfileField),
          (u.prf.profiles[i]).get g = if i = s.prf.wrsel ∧ g = f then v.toNat else (s.prf.profiles[i]).get g) ∧
        u.emn.decay =
          (if f = .decayInterval ∧ s.prf.wrsel = s.prf.opsel ∧ v.toNat ≠ s.operating.decayInterval then
            (if v.toNat = 0 then none else some ⟨v.toNat * 1000000, 0⟩)
          else s.emn.decay))) ∧
  (∀ (s : State) (v : Word32), Heard s →
    (64 ≤ v.toNat →
      exec (.alertEnableWrite v) s = .next (s.answer 26#8 (26#8 :: 18#8 :: be32 v) .badArg)) ∧
    (v.toNat < 64 →
      exec (.alertEnableWrite v) s =
        .next (State.answer { s with
          alc := { s.alc with
                   enable := BitVec.ofNat 6 v.toNat
                   capture := match s.alc.capture with
                              | some c => if v.getLsbD c.bit then some c else none
                              | none => none } } 26#8 (26#8 :: 18#8 :: be32 v)
            (.done (18#8 :: be32 v)))) ∧
    ((v.toNat = 0 ∨ 65536 ≤ v.toNat) →
      exec (.dlinkTimeoutWrite v) s = .next (s.answer 26#8 (26#8 :: 19#8 :: be32 v) .badArg)) ∧
    (1 ≤ v.toNat → v.toNat ≤ 65535 →
      exec (.dlinkTimeoutWrite v) s =
        .next (State.answer { s with dp := { s.dp with timeout := v.toNat } } 26#8 (26#8 :: 19#8 :: be32 v)
          (.done (19#8 :: be32 v)))))

/-! ## Resets -/

/-- Sections 1.6, 2.7, 3.7, 4.10, 5.7, 6.5, 7.7, 8.9, 9.4 and 10.5, the power-on column: what a power-on reset
leaves, with a frame in progress abandoned. The input pins, the record of what was sent and the queue are not
the device's to change. THE MODEL'S CHOICE (log entry 19): a POWER_ON_RESET while a power-on reset is in force leaves
them again, and restarts the DP_RST_n pulse. -/
def Obligations.PowerOnResetLeavesPowerOnValues : Prop :=
  ∀ s : State, ∃ t : State, exec .powerOnReset s = .next t ∧
    t.pins = s.pins ∧ t.wires = s.wires ∧ t.pending = s.pending ∧
    t.rst = { force := .powerOn, hold := none, last := .por, supplies := false } ∧
    (∀ i : Fin 128, t.rmt[i] = none) ∧
    (∀ b i, t.spare b i = .free) ∧ (∀ b : Fin 16, t.spl.changed[b] = false) ∧
    t.emn = { suspects := [], losses := [], lossSeq := 0#16, decay := none } ∧
    t.mge = { queue := [], ctx := none, last := none } ∧
    t.psc = { state := .idle, cursor := 0, timer := none, line := none } ∧
    (∀ i : Fin 2, t.prf.profiles[i] =
      { ceThreshold := 8, autoRepair := false, commitMode := .autoCommit, retryLimit := 4, scrubInterval := 100
        scrubWriteback := true, decayInterval := 0, spareWatermark := 2, starvationLimit := 16 }) ∧
    t.prf.opsel = 0 ∧ t.prf.wrsel = 0 ∧
    t.up.link = .down ∧ t.up.credits = 0 ∧ (∀ tag, t.record tag = none) ∧ t.up.forward = [] ∧
    t.up.gate = .closed ∧ t.up.lastError = .none ∧
    t.dp = { link := .retrain, pulse := some ⟨10, 0⟩, lastFault := .none, fifo := [], timer := none
             timeout := 2000, starvation := 0 } ∧
    t.alc = { link := false, migration := false, candidate := false, spareLow := false, scrubPass := false
              enable := 0#6, capture := none } ∧
    t.mgp = { frame := if s.mgp.frame = .idle then .idle else .ignored, shift := [], buffer := .empty
              seq := 0#8 } ∧
    ∀ k : Counter, t.counter k = 0#32

/-- Section 10.5 with sections 1.6, 2.7, 3.7, 4.10, 5.7, 6.5, 7.7, 8.9 and 9.4, the device reset column: what
a device reset keeps, rolls back and clears, from the pin and from the action, with a frame in progress abandoned
and MIGRATIONS_ABORTED counting the rollback of the MOVING entry and of each HELD entry (R92, R95). -/
def Obligations.DeviceResetKeepsTheMemoryDescription : Prop :=
  ∀ (s : State) (c : Instr) (kind : ResetKind) (hold : Option Interval), s.inReset = false →
    (c = .rstNFall ∧ kind = .pin ∧ hold = none ∨
      c = .deviceReset [] ∧ Heard s ∧ kind = .action ∧ hold = some ⟨10, 0⟩) →
    ∃ t : State, exec c s = .next t ∧
      t.rst = { s.rst with force := .device, hold := hold, last := kind } ∧
      t.pins = { s.pins with rstN := if kind = .pin then false else s.pins.rstN } ∧
      (∀ i : Fin 128, t.rmt[i] = (s.rmt[i]).bind rolledBack) ∧
      (∀ b i, (∃ j : Fin 128, ∃ e ∈ s.rmt[j], e.home.bank = b ∧ e.st.next = some i) → t.spare b i = .free) ∧
      (∀ b i, (∀ j : Fin 128, ∀ e ∈ s.rmt[j], ¬(e.home.bank = b ∧ e.st.next = some i)) →
        t.spare b i = s.spare b i) ∧
      (∀ b : Fin 16, t.spl.changed[b] = true ↔
        s.spl.changed[b] = true ∨ ∃ j : Fin 128, ∃ e ∈ s.rmt[j], e.home.bank = b ∧ e.st.next ≠ none) ∧
      t.emn.suspects.length = s.emn.suspects.length ∧
      (∀ (n : Nat) (r : SuspectRecord), s.emn.suspects[n]? = some r →
        ((∃ j : Fin 128, ∃ e ∈ s.rmt[j], e.home = r.home ∧ e.st.next ≠ none) →
          t.emn.suspects[n]? = some { r with pinned := false }) ∧
        ((∀ j : Fin 128, ∀ e ∈ s.rmt[j], e.home = r.home → e.st.next = none) →
          t.emn.suspects[n]? = some r)) ∧
      t.emn.losses = s.emn.losses ∧ t.emn.lossSeq = s.emn.lossSeq ∧ t.emn.decay = none ∧
      t.mge.queue = [] ∧ t.mge.ctx = none ∧
      (s.mge.ctx = none → t.mge.last = s.mge.last) ∧
      (∀ m, s.mge.ctx = some m →
        t.mge.last = some { home := m.home, outcome := .abortedReset, spare := some m.target
                            mode := some m.mode, origin := some m.origin
                            poisoned := m.poisoned, retries := m.totalRetries }) ∧
      t.psc = { state := .idle, cursor := s.psc.cursor, timer := none, line := none } ∧
      t.prf = ProfileBlock.default ∧ t.up = UpstreamPort.powerOn ∧ t.dp = DownstreamPort.powerOn ∧
      t.alc = AlertController.powerOn ∧
      t.mgp = { frame := if kind = .pin ∧ s.mgp.frame ≠ .idle then .ignored else .idle, shift := []
                buffer := .empty, seq := 0#8 } ∧
      (∀ k : Counter, k ≠ .migrationsAborted → t.counter k = s.counter k) ∧
      (RepairCoherent s →
        t.counter .migrationsAborted =
          satInc^[(List.finRange 128).countP fun i => (s.rmt[i]).any fun e => e.st.next.isSome]
            (s.counter .migrationsAborted)) ∧
      (kind = .pin → t.wires = s.wires) ∧
      (kind = .action → t.wires = { s.wires with mgTx := s.wires.mgTx ++ [List.replicate 16 false] }) ∧
      t.pending = s.pending

/-- Section 10.5 and R147: POWER_ON_RESET_END brings the supplies within limits, DEVICE_RESET_END ends the hold of
DEVICE_RESET or, as POWER_ON_RESET_END may, is a rise of RST_n. A power-on reset is in force until the supplies are
within limits and RST_n is high, a device reset until RST_n is high and the 10 µs of a DEVICE_RESET have passed:
until then the command changes nothing else. At the end the upstream link enters UP with 64 credits where UP_RST_n
is high; a DP_RST_n pulse that has not run its 10 µs goes on, while one that has is released, with the link UP where
DP_READY is high. A fall of RST_n while a reset is in force prolongs it without applying its values again. THE
MODEL'S CHOICES (log entries 5 and 7): the rise of RST_n is an operand of these two rows, and an end of a reset that
is not in force changes nothing but the level and the supplies. -/
def Obligations.ResetsEnd : Prop :=
  (∀ (s u : State) (c : Instr) (rise : Bool),
    (c = .deviceResetEnd rise ∧ u = { s with pins := { s.pins with rstN := s.pins.rstN || rise } } ∨
      c = .powerOnResetEnd rise ∧
        u = { s with
              pins := { s.pins with rstN := s.pins.rstN || rise }
              rst := { s.rst with supplies := true } }) →
    (¬ResetReleased u → exec c s = .next u) ∧
    (ResetReleased u → (∀ tag, s.record tag = none) → s.up.link = .down → s.psc.state = .idle →
      s.dp.link = .retrain →
      ∃ t : State, exec c s = .next t ∧
        t = { u with
              rst := { u.rst with force := .none, hold := none }
              up := if s.pins.upRstN then { s.up with link := .up, credits := 64 } else s.up
              dp := t.dp } ∧
        ((∀ p, s.dp.pulse = some p → p.elapsed < p.length) → t.dp = s.dp) ∧
        (∀ p, s.dp.pulse = some p → p.length ≤ p.elapsed →
          t.dp = { s.dp with pulse := none, link := if s.pins.dpReady then .up else .retrain }))) ∧
  (∀ s : State, s.rst.force ≠ .none →
    exec .rstNFall s = .next { s with pins := { s.pins with rstN := false } })
end

