-- ==== Sys2Proof/Laws/State.lean ====
section
/-! SUPPORT. The blocks of a state after the replacement of one block, and equality of states block by block. -/

namespace Sys2Proof.Machine

variable (s : State)

/-! ### setPins -/

@[simp] theorem State.setPins_pins (x : Pins) : (s.setPins x).pins = x := rfl
@[simp] theorem State.setPins_rst (x : Pins) : (s.setPins x).rst = s.rst := rfl
@[simp] theorem State.setPins_rmt (x : Pins) : (s.setPins x).rmt = s.rmt := rfl
@[simp] theorem State.setPins_spl (x : Pins) : (s.setPins x).spl = s.spl := rfl
@[simp] theorem State.setPins_emn (x : Pins) : (s.setPins x).emn = s.emn := rfl
@[simp] theorem State.setPins_mge (x : Pins) : (s.setPins x).mge = s.mge := rfl
@[simp] theorem State.setPins_psc (x : Pins) : (s.setPins x).psc = s.psc := rfl
@[simp] theorem State.setPins_prf (x : Pins) : (s.setPins x).prf = s.prf := rfl
@[simp] theorem State.setPins_up (x : Pins) : (s.setPins x).up = s.up := rfl
@[simp] theorem State.setPins_dp (x : Pins) : (s.setPins x).dp = s.dp := rfl
@[simp] theorem State.setPins_alc (x : Pins) : (s.setPins x).alc = s.alc := rfl
@[simp] theorem State.setPins_mgp (x : Pins) : (s.setPins x).mgp = s.mgp := rfl
@[simp] theorem State.setPins_counters (x : Pins) : (s.setPins x).counters = s.counters := rfl
@[simp] theorem State.setPins_wires (x : Pins) : (s.setPins x).wires = s.wires := rfl
@[simp] theorem State.setPins_pending (x : Pins) : (s.setPins x).pending = s.pending := rfl

/-! ### setRst -/

@[simp] theorem State.setRst_pins (x : ResetControl) : (s.setRst x).pins = s.pins := rfl
@[simp] theorem State.setRst_rst (x : ResetControl) : (s.setRst x).rst = x := rfl
@[simp] theorem State.setRst_rmt (x : ResetControl) : (s.setRst x).rmt = s.rmt := rfl
@[simp] theorem State.setRst_spl (x : ResetControl) : (s.setRst x).spl = s.spl := rfl
@[simp] theorem State.setRst_emn (x : ResetControl) : (s.setRst x).emn = s.emn := rfl
@[simp] theorem State.setRst_mge (x : ResetControl) : (s.setRst x).mge = s.mge := rfl
@[simp] theorem State.setRst_psc (x : ResetControl) : (s.setRst x).psc = s.psc := rfl
@[simp] theorem State.setRst_prf (x : ResetControl) : (s.setRst x).prf = s.prf := rfl
@[simp] theorem State.setRst_up (x : ResetControl) : (s.setRst x).up = s.up := rfl
@[simp] theorem State.setRst_dp (x : ResetControl) : (s.setRst x).dp = s.dp := rfl
@[simp] theorem State.setRst_alc (x : ResetControl) : (s.setRst x).alc = s.alc := rfl
@[simp] theorem State.setRst_mgp (x : ResetControl) : (s.setRst x).mgp = s.mgp := rfl
@[simp] theorem State.setRst_counters (x : ResetControl) : (s.setRst x).counters = s.counters := rfl
@[simp] theorem State.setRst_wires (x : ResetControl) : (s.setRst x).wires = s.wires := rfl
@[simp] theorem State.setRst_pending (x : ResetControl) : (s.setRst x).pending = s.pending := rfl

/-! ### setRmt -/

@[simp] theorem State.setRmt_pins (x : Vector (Option RemapEntry) 128) : (s.setRmt x).pins = s.pins := rfl
@[simp] theorem State.setRmt_rst (x : Vector (Option RemapEntry) 128) : (s.setRmt x).rst = s.rst := rfl
@[simp] theorem State.setRmt_rmt (x : Vector (Option RemapEntry) 128) : (s.setRmt x).rmt = x := rfl
@[simp] theorem State.setRmt_spl (x : Vector (Option RemapEntry) 128) : (s.setRmt x).spl = s.spl := rfl
@[simp] theorem State.setRmt_emn (x : Vector (Option RemapEntry) 128) : (s.setRmt x).emn = s.emn := rfl
@[simp] theorem State.setRmt_mge (x : Vector (Option RemapEntry) 128) : (s.setRmt x).mge = s.mge := rfl
@[simp] theorem State.setRmt_psc (x : Vector (Option RemapEntry) 128) : (s.setRmt x).psc = s.psc := rfl
@[simp] theorem State.setRmt_prf (x : Vector (Option RemapEntry) 128) : (s.setRmt x).prf = s.prf := rfl
@[simp] theorem State.setRmt_up (x : Vector (Option RemapEntry) 128) : (s.setRmt x).up = s.up := rfl
@[simp] theorem State.setRmt_dp (x : Vector (Option RemapEntry) 128) : (s.setRmt x).dp = s.dp := rfl
@[simp] theorem State.setRmt_alc (x : Vector (Option RemapEntry) 128) : (s.setRmt x).alc = s.alc := rfl
@[simp] theorem State.setRmt_mgp (x : Vector (Option RemapEntry) 128) : (s.setRmt x).mgp = s.mgp := rfl
@[simp] theorem State.setRmt_counters (x : Vector (Option RemapEntry) 128) : (s.setRmt x).counters = s.counters := rfl
@[simp] theorem State.setRmt_wires (x : Vector (Option RemapEntry) 128) : (s.setRmt x).wires = s.wires := rfl
@[simp] theorem State.setRmt_pending (x : Vector (Option RemapEntry) 128) : (s.setRmt x).pending = s.pending := rfl

/-! ### setSpl -/

@[simp] theorem State.setSpl_pins (x : SparePool) : (s.setSpl x).pins = s.pins := rfl
@[simp] theorem State.setSpl_rst (x : SparePool) : (s.setSpl x).rst = s.rst := rfl
@[simp] theorem State.setSpl_rmt (x : SparePool) : (s.setSpl x).rmt = s.rmt := rfl
@[simp] theorem State.setSpl_spl (x : SparePool) : (s.setSpl x).spl = x := rfl
@[simp] theorem State.setSpl_emn (x : SparePool) : (s.setSpl x).emn = s.emn := rfl
@[simp] theorem State.setSpl_mge (x : SparePool) : (s.setSpl x).mge = s.mge := rfl
@[simp] theorem State.setSpl_psc (x : SparePool) : (s.setSpl x).psc = s.psc := rfl
@[simp] theorem State.setSpl_prf (x : SparePool) : (s.setSpl x).prf = s.prf := rfl
@[simp] theorem State.setSpl_up (x : SparePool) : (s.setSpl x).up = s.up := rfl
@[simp] theorem State.setSpl_dp (x : SparePool) : (s.setSpl x).dp = s.dp := rfl
@[simp] theorem State.setSpl_alc (x : SparePool) : (s.setSpl x).alc = s.alc := rfl
@[simp] theorem State.setSpl_mgp (x : SparePool) : (s.setSpl x).mgp = s.mgp := rfl
@[simp] theorem State.setSpl_counters (x : SparePool) : (s.setSpl x).counters = s.counters := rfl
@[simp] theorem State.setSpl_wires (x : SparePool) : (s.setSpl x).wires = s.wires := rfl
@[simp] theorem State.setSpl_pending (x : SparePool) : (s.setSpl x).pending = s.pending := rfl

/-! ### setEmn -/

@[simp] theorem State.setEmn_pins (x : ErrorMonitor) : (s.setEmn x).pins = s.pins := rfl
@[simp] theorem State.setEmn_rst (x : ErrorMonitor) : (s.setEmn x).rst = s.rst := rfl
@[simp] theorem State.setEmn_rmt (x : ErrorMonitor) : (s.setEmn x).rmt = s.rmt := rfl
@[simp] theorem State.setEmn_spl (x : ErrorMonitor) : (s.setEmn x).spl = s.spl := rfl
@[simp] theorem State.setEmn_emn (x : ErrorMonitor) : (s.setEmn x).emn = x := rfl
@[simp] theorem State.setEmn_mge (x : ErrorMonitor) : (s.setEmn x).mge = s.mge := rfl
@[simp] theorem State.setEmn_psc (x : ErrorMonitor) : (s.setEmn x).psc = s.psc := rfl
@[simp] theorem State.setEmn_prf (x : ErrorMonitor) : (s.setEmn x).prf = s.prf := rfl
@[simp] theorem State.setEmn_up (x : ErrorMonitor) : (s.setEmn x).up = s.up := rfl
@[simp] theorem State.setEmn_dp (x : ErrorMonitor) : (s.setEmn x).dp = s.dp := rfl
@[simp] theorem State.setEmn_alc (x : ErrorMonitor) : (s.setEmn x).alc = s.alc := rfl
@[simp] theorem State.setEmn_mgp (x : ErrorMonitor) : (s.setEmn x).mgp = s.mgp := rfl
@[simp] theorem State.setEmn_counters (x : ErrorMonitor) : (s.setEmn x).counters = s.counters := rfl
@[simp] theorem State.setEmn_wires (x : ErrorMonitor) : (s.setEmn x).wires = s.wires := rfl
@[simp] theorem State.setEmn_pending (x : ErrorMonitor) : (s.setEmn x).pending = s.pending := rfl

/-! ### setMge -/

@[simp] theorem State.setMge_pins (x : MigEngine) : (s.setMge x).pins = s.pins := rfl
@[simp] theorem State.setMge_rst (x : MigEngine) : (s.setMge x).rst = s.rst := rfl
@[simp] theorem State.setMge_rmt (x : MigEngine) : (s.setMge x).rmt = s.rmt := rfl
@[simp] theorem State.setMge_spl (x : MigEngine) : (s.setMge x).spl = s.spl := rfl
@[simp] theorem State.setMge_emn (x : MigEngine) : (s.setMge x).emn = s.emn := rfl
@[simp] theorem State.setMge_mge (x : MigEngine) : (s.setMge x).mge = x := rfl
@[simp] theorem State.setMge_psc (x : MigEngine) : (s.setMge x).psc = s.psc := rfl
@[simp] theorem State.setMge_prf (x : MigEngine) : (s.setMge x).prf = s.prf := rfl
@[simp] theorem State.setMge_up (x : MigEngine) : (s.setMge x).up = s.up := rfl
@[simp] theorem State.setMge_dp (x : MigEngine) : (s.setMge x).dp = s.dp := rfl
@[simp] theorem State.setMge_alc (x : MigEngine) : (s.setMge x).alc = s.alc := rfl
@[simp] theorem State.setMge_mgp (x : MigEngine) : (s.setMge x).mgp = s.mgp := rfl
@[simp] theorem State.setMge_counters (x : MigEngine) : (s.setMge x).counters = s.counters := rfl
@[simp] theorem State.setMge_wires (x : MigEngine) : (s.setMge x).wires = s.wires := rfl
@[simp] theorem State.setMge_pending (x : MigEngine) : (s.setMge x).pending = s.pending := rfl

/-! ### setPsc -/

@[simp] theorem State.setPsc_pins (x : Scrubber) : (s.setPsc x).pins = s.pins := rfl
@[simp] theorem State.setPsc_rst (x : Scrubber) : (s.setPsc x).rst = s.rst := rfl
@[simp] theorem State.setPsc_rmt (x : Scrubber) : (s.setPsc x).rmt = s.rmt := rfl
@[simp] theorem State.setPsc_spl (x : Scrubber) : (s.setPsc x).spl = s.spl := rfl
@[simp] theorem State.setPsc_emn (x : Scrubber) : (s.setPsc x).emn = s.emn := rfl
@[simp] theorem State.setPsc_mge (x : Scrubber) : (s.setPsc x).mge = s.mge := rfl
@[simp] theorem State.setPsc_psc (x : Scrubber) : (s.setPsc x).psc = x := rfl
@[simp] theorem State.setPsc_prf (x : Scrubber) : (s.setPsc x).prf = s.prf := rfl
@[simp] theorem State.setPsc_up (x : Scrubber) : (s.setPsc x).up = s.up := rfl
@[simp] theorem State.setPsc_dp (x : Scrubber) : (s.setPsc x).dp = s.dp := rfl
@[simp] theorem State.setPsc_alc (x : Scrubber) : (s.setPsc x).alc = s.alc := rfl
@[simp] theorem State.setPsc_mgp (x : Scrubber) : (s.setPsc x).mgp = s.mgp := rfl
@[simp] theorem State.setPsc_counters (x : Scrubber) : (s.setPsc x).counters = s.counters := rfl
@[simp] theorem State.setPsc_wires (x : Scrubber) : (s.setPsc x).wires = s.wires := rfl
@[simp] theorem State.setPsc_pending (x : Scrubber) : (s.setPsc x).pending = s.pending := rfl

/-! ### setPrf -/

@[simp] theorem State.setPrf_pins (x : ProfileBlock) : (s.setPrf x).pins = s.pins := rfl
@[simp] theorem State.setPrf_rst (x : ProfileBlock) : (s.setPrf x).rst = s.rst := rfl
@[simp] theorem State.setPrf_rmt (x : ProfileBlock) : (s.setPrf x).rmt = s.rmt := rfl
@[simp] theorem State.setPrf_spl (x : ProfileBlock) : (s.setPrf x).spl = s.spl := rfl
@[simp] theorem State.setPrf_emn (x : ProfileBlock) : (s.setPrf x).emn = s.emn := rfl
@[simp] theorem State.setPrf_mge (x : ProfileBlock) : (s.setPrf x).mge = s.mge := rfl
@[simp] theorem State.setPrf_psc (x : ProfileBlock) : (s.setPrf x).psc = s.psc := rfl
@[simp] theorem State.setPrf_prf (x : ProfileBlock) : (s.setPrf x).prf = x := rfl
@[simp] theorem State.setPrf_up (x : ProfileBlock) : (s.setPrf x).up = s.up := rfl
@[simp] theorem State.setPrf_dp (x : ProfileBlock) : (s.setPrf x).dp = s.dp := rfl
@[simp] theorem State.setPrf_alc (x : ProfileBlock) : (s.setPrf x).alc = s.alc := rfl
@[simp] theorem State.setPrf_mgp (x : ProfileBlock) : (s.setPrf x).mgp = s.mgp := rfl
@[simp] theorem State.setPrf_counters (x : ProfileBlock) : (s.setPrf x).counters = s.counters := rfl
@[simp] theorem State.setPrf_wires (x : ProfileBlock) : (s.setPrf x).wires = s.wires := rfl
@[simp] theorem State.setPrf_pending (x : ProfileBlock) : (s.setPrf x).pending = s.pending := rfl

/-! ### setUp -/

@[simp] theorem State.setUp_pins (x : UpstreamPort) : (s.setUp x).pins = s.pins := rfl
@[simp] theorem State.setUp_rst (x : UpstreamPort) : (s.setUp x).rst = s.rst := rfl
@[simp] theorem State.setUp_rmt (x : UpstreamPort) : (s.setUp x).rmt = s.rmt := rfl
@[simp] theorem State.setUp_spl (x : UpstreamPort) : (s.setUp x).spl = s.spl := rfl
@[simp] theorem State.setUp_emn (x : UpstreamPort) : (s.setUp x).emn = s.emn := rfl
@[simp] theorem State.setUp_mge (x : UpstreamPort) : (s.setUp x).mge = s.mge := rfl
@[simp] theorem State.setUp_psc (x : UpstreamPort) : (s.setUp x).psc = s.psc := rfl
@[simp] theorem State.setUp_prf (x : UpstreamPort) : (s.setUp x).prf = s.prf := rfl
@[simp] theorem State.setUp_up (x : UpstreamPort) : (s.setUp x).up = x := rfl
@[simp] theorem State.setUp_dp (x : UpstreamPort) : (s.setUp x).dp = s.dp := rfl
@[simp] theorem State.setUp_alc (x : UpstreamPort) : (s.setUp x).alc = s.alc := rfl
@[simp] theorem State.setUp_mgp (x : UpstreamPort) : (s.setUp x).mgp = s.mgp := rfl
@[simp] theorem State.setUp_counters (x : UpstreamPort) : (s.setUp x).counters = s.counters := rfl
@[simp] theorem State.setUp_wires (x : UpstreamPort) : (s.setUp x).wires = s.wires := rfl
@[simp] theorem State.setUp_pending (x : UpstreamPort) : (s.setUp x).pending = s.pending := rfl

/-! ### setDp -/

@[simp] theorem State.setDp_pins (x : DownstreamPort) : (s.setDp x).pins = s.pins := rfl
@[simp] theorem State.setDp_rst (x : DownstreamPort) : (s.setDp x).rst = s.rst := rfl
@[simp] theorem State.setDp_rmt (x : DownstreamPort) : (s.setDp x).rmt = s.rmt := rfl
@[simp] theorem State.setDp_spl (x : DownstreamPort) : (s.setDp x).spl = s.spl := rfl
@[simp] theorem State.setDp_emn (x : DownstreamPort) : (s.setDp x).emn = s.emn := rfl
@[simp] theorem State.setDp_mge (x : DownstreamPort) : (s.setDp x).mge = s.mge := rfl
@[simp] theorem State.setDp_psc (x : DownstreamPort) : (s.setDp x).psc = s.psc := rfl
@[simp] theorem State.setDp_prf (x : DownstreamPort) : (s.setDp x).prf = s.prf := rfl
@[simp] theorem State.setDp_up (x : DownstreamPort) : (s.setDp x).up = s.up := rfl
@[simp] theorem State.setDp_dp (x : DownstreamPort) : (s.setDp x).dp = x := rfl
@[simp] theorem State.setDp_alc (x : DownstreamPort) : (s.setDp x).alc = s.alc := rfl
@[simp] theorem State.setDp_mgp (x : DownstreamPort) : (s.setDp x).mgp = s.mgp := rfl
@[simp] theorem State.setDp_counters (x : DownstreamPort) : (s.setDp x).counters = s.counters := rfl
@[simp] theorem State.setDp_wires (x : DownstreamPort) : (s.setDp x).wires = s.wires := rfl
@[simp] theorem State.setDp_pending (x : DownstreamPort) : (s.setDp x).pending = s.pending := rfl

/-! ### setAlc -/

@[simp] theorem State.setAlc_pins (x : AlertController) : (s.setAlc x).pins = s.pins := rfl
@[simp] theorem State.setAlc_rst (x : AlertController) : (s.setAlc x).rst = s.rst := rfl
@[simp] theorem State.setAlc_rmt (x : AlertController) : (s.setAlc x).rmt = s.rmt := rfl
@[simp] theorem State.setAlc_spl (x : AlertController) : (s.setAlc x).spl = s.spl := rfl
@[simp] theorem State.setAlc_emn (x : AlertController) : (s.setAlc x).emn = s.emn := rfl
@[simp] theorem State.setAlc_mge (x : AlertController) : (s.setAlc x).mge = s.mge := rfl
@[simp] theorem State.setAlc_psc (x : AlertController) : (s.setAlc x).psc = s.psc := rfl
@[simp] theorem State.setAlc_prf (x : AlertController) : (s.setAlc x).prf = s.prf := rfl
@[simp] theorem State.setAlc_up (x : AlertController) : (s.setAlc x).up = s.up := rfl
@[simp] theorem State.setAlc_dp (x : AlertController) : (s.setAlc x).dp = s.dp := rfl
@[simp] theorem State.setAlc_alc (x : AlertController) : (s.setAlc x).alc = x := rfl
@[simp] theorem State.setAlc_mgp (x : AlertController) : (s.setAlc x).mgp = s.mgp := rfl
@[simp] theorem State.setAlc_counters (x : AlertController) : (s.setAlc x).counters = s.counters := rfl
@[simp] theorem State.setAlc_wires (x : AlertController) : (s.setAlc x).wires = s.wires := rfl
@[simp] theorem State.setAlc_pending (x : AlertController) : (s.setAlc x).pending = s.pending := rfl

/-! ### setMgp -/

@[simp] theorem State.setMgp_pins (x : ManagementPort) : (s.setMgp x).pins = s.pins := rfl
@[simp] theorem State.setMgp_rst (x : ManagementPort) : (s.setMgp x).rst = s.rst := rfl
@[simp] theorem State.setMgp_rmt (x : ManagementPort) : (s.setMgp x).rmt = s.rmt := rfl
@[simp] theorem State.setMgp_spl (x : ManagementPort) : (s.setMgp x).spl = s.spl := rfl
@[simp] theorem State.setMgp_emn (x : ManagementPort) : (s.setMgp x).emn = s.emn := rfl
@[simp] theorem State.setMgp_mge (x : ManagementPort) : (s.setMgp x).mge = s.mge := rfl
@[simp] theorem State.setMgp_psc (x : ManagementPort) : (s.setMgp x).psc = s.psc := rfl
@[simp] theorem State.setMgp_prf (x : ManagementPort) : (s.setMgp x).prf = s.prf := rfl
@[simp] theorem State.setMgp_up (x : ManagementPort) : (s.setMgp x).up = s.up := rfl
@[simp] theorem State.setMgp_dp (x : ManagementPort) : (s.setMgp x).dp = s.dp := rfl
@[simp] theorem State.setMgp_alc (x : ManagementPort) : (s.setMgp x).alc = s.alc := rfl
@[simp] theorem State.setMgp_mgp (x : ManagementPort) : (s.setMgp x).mgp = x := rfl
@[simp] theorem State.setMgp_counters (x : ManagementPort) : (s.setMgp x).counters = s.counters := rfl
@[simp] theorem State.setMgp_wires (x : ManagementPort) : (s.setMgp x).wires = s.wires := rfl
@[simp] theorem State.setMgp_pending (x : ManagementPort) : (s.setMgp x).pending = s.pending := rfl

/-! ### setCounters -/

@[simp] theorem State.setCounters_pins (x : Vector (BitVec 32) 16) : (s.setCounters x).pins = s.pins := rfl
@[simp] theorem State.setCounters_rst (x : Vector (BitVec 32) 16) : (s.setCounters x).rst = s.rst := rfl
@[simp] theorem State.setCounters_rmt (x : Vector (BitVec 32) 16) : (s.setCounters x).rmt = s.rmt := rfl
@[simp] theorem State.setCounters_spl (x : Vector (BitVec 32) 16) : (s.setCounters x).spl = s.spl := rfl
@[simp] theorem State.setCounters_emn (x : Vector (BitVec 32) 16) : (s.setCounters x).emn = s.emn := rfl
@[simp] theorem State.setCounters_mge (x : Vector (BitVec 32) 16) : (s.setCounters x).mge = s.mge := rfl
@[simp] theorem State.setCounters_psc (x : Vector (BitVec 32) 16) : (s.setCounters x).psc = s.psc := rfl
@[simp] theorem State.setCounters_prf (x : Vector (BitVec 32) 16) : (s.setCounters x).prf = s.prf := rfl
@[simp] theorem State.setCounters_up (x : Vector (BitVec 32) 16) : (s.setCounters x).up = s.up := rfl
@[simp] theorem State.setCounters_dp (x : Vector (BitVec 32) 16) : (s.setCounters x).dp = s.dp := rfl
@[simp] theorem State.setCounters_alc (x : Vector (BitVec 32) 16) : (s.setCounters x).alc = s.alc := rfl
@[simp] theorem State.setCounters_mgp (x : Vector (BitVec 32) 16) : (s.setCounters x).mgp = s.mgp := rfl
@[simp] theorem State.setCounters_counters (x : Vector (BitVec 32) 16) : (s.setCounters x).counters = x := rfl
@[simp] theorem State.setCounters_wires (x : Vector (BitVec 32) 16) : (s.setCounters x).wires = s.wires := rfl
@[simp] theorem State.setCounters_pending (x : Vector (BitVec 32) 16) : (s.setCounters x).pending = s.pending := rfl

/-! ### setWires -/

@[simp] theorem State.setWires_pins (x : Wires) : (s.setWires x).pins = s.pins := rfl
@[simp] theorem State.setWires_rst (x : Wires) : (s.setWires x).rst = s.rst := rfl
@[simp] theorem State.setWires_rmt (x : Wires) : (s.setWires x).rmt = s.rmt := rfl
@[simp] theorem State.setWires_spl (x : Wires) : (s.setWires x).spl = s.spl := rfl
@[simp] theorem State.setWires_emn (x : Wires) : (s.setWires x).emn = s.emn := rfl
@[simp] theorem State.setWires_mge (x : Wires) : (s.setWires x).mge = s.mge := rfl
@[simp] theorem State.setWires_psc (x : Wires) : (s.setWires x).psc = s.psc := rfl
@[simp] theorem State.setWires_prf (x : Wires) : (s.setWires x).prf = s.prf := rfl
@[simp] theorem State.setWires_up (x : Wires) : (s.setWires x).up = s.up := rfl
@[simp] theorem State.setWires_dp (x : Wires) : (s.setWires x).dp = s.dp := rfl
@[simp] theorem State.setWires_alc (x : Wires) : (s.setWires x).alc = s.alc := rfl
@[simp] theorem State.setWires_mgp (x : Wires) : (s.setWires x).mgp = s.mgp := rfl
@[simp] theorem State.setWires_counters (x : Wires) : (s.setWires x).counters = s.counters := rfl
@[simp] theorem State.setWires_wires (x : Wires) : (s.setWires x).wires = x := rfl
@[simp] theorem State.setWires_pending (x : Wires) : (s.setWires x).pending = s.pending := rfl

/-! ### setPending -/

@[simp] theorem State.setPending_pins (x : List Instr) : (s.setPending x).pins = s.pins := rfl
@[simp] theorem State.setPending_rst (x : List Instr) : (s.setPending x).rst = s.rst := rfl
@[simp] theorem State.setPending_rmt (x : List Instr) : (s.setPending x).rmt = s.rmt := rfl
@[simp] theorem State.setPending_spl (x : List Instr) : (s.setPending x).spl = s.spl := rfl
@[simp] theorem State.setPending_emn (x : List Instr) : (s.setPending x).emn = s.emn := rfl
@[simp] theorem State.setPending_mge (x : List Instr) : (s.setPending x).mge = s.mge := rfl
@[simp] theorem State.setPending_psc (x : List Instr) : (s.setPending x).psc = s.psc := rfl
@[simp] theorem State.setPending_prf (x : List Instr) : (s.setPending x).prf = s.prf := rfl
@[simp] theorem State.setPending_up (x : List Instr) : (s.setPending x).up = s.up := rfl
@[simp] theorem State.setPending_dp (x : List Instr) : (s.setPending x).dp = s.dp := rfl
@[simp] theorem State.setPending_alc (x : List Instr) : (s.setPending x).alc = s.alc := rfl
@[simp] theorem State.setPending_mgp (x : List Instr) : (s.setPending x).mgp = s.mgp := rfl
@[simp] theorem State.setPending_counters (x : List Instr) : (s.setPending x).counters = s.counters := rfl
@[simp] theorem State.setPending_wires (x : List Instr) : (s.setPending x).wires = s.wires := rfl
@[simp] theorem State.setPending_pending (x : List Instr) : (s.setPending x).pending = x := rfl

/-- Two states are equal where every block is. -/
theorem State.eq_of_blocks {s t : State} (h₁ : s.pins = t.pins) (h₂ : s.rst = t.rst) (h₃ : s.rmt = t.rmt)
    (h₄ : s.spl = t.spl) (h₅ : s.emn = t.emn) (h₆ : s.mge = t.mge) (h₇ : s.psc = t.psc) (h₈ : s.prf = t.prf)
    (h₉ : s.up = t.up) (h₁₀ : s.dp = t.dp) (h₁₁ : s.alc = t.alc) (h₁₂ : s.mgp = t.mgp)
    (h₁₃ : s.counters = t.counters) (h₁₄ : s.wires = t.wires) (h₁₅ : s.pending = t.pending) : s = t := by
  cases s; cases t; simp_all

/-! ### What reads one block alone -/

theorem State.operating_congr {s t : State} (e : s.prf = t.prf) : s.operating = t.operating := by
  simp only [State.operating, e]

theorem State.slotOf_congr {s t : State} (e : s.rmt = t.rmt) (h : HomeRow) : s.slotOf h = t.slotOf h := by
  simp only [State.slotOf, e]

theorem State.entryOf_congr {s t : State} (e : s.rmt = t.rmt) (h : HomeRow) : s.entryOf h = t.entryOf h := by
  simp only [State.entryOf, State.slotOf, e]

theorem State.emptySlot_congr {s t : State} (e : s.rmt = t.rmt) : s.emptySlot = t.emptySlot := by
  simp only [State.emptySlot, e]

theorem State.currentLoc_congr {s t : State} (e : s.rmt = t.rmt) (h : HomeRow) : s.currentLoc h = t.currentLoc h := by
  simp only [State.currentLoc, State.entryOf, State.slotOf, e]

theorem State.rowMigrating_congr {s t : State} (e : s.rmt = t.rmt) (h : HomeRow) : s.rowMigrating h = t.rowMigrating h := by
  simp only [State.rowMigrating, State.entryOf, State.slotOf, e]

theorem State.heldCount_congr {s t : State} (e : s.rmt = t.rmt) : s.heldCount = t.heldCount := by
  simp only [State.heldCount, e]

theorem State.spare_congr {s t : State} (e : s.spl = t.spl) (b i : Fin 16) : s.spare b i = t.spare b i := by
  simp only [State.spare, e]

theorem State.spareCount_congr {s t : State} (e : s.spl = t.spl) (b : Fin 16) (x : SpareState) : s.spareCount b x = t.spareCount b x := by
  simp only [State.spareCount, State.spare, e]

theorem State.lowestFree_congr {s t : State} (e : s.spl = t.spl) (b : Fin 16) : s.lowestFree b = t.lowestFree b := by
  simp only [State.lowestFree, State.spare, e]

theorem State.suspectOf_congr {s t : State} (e : s.emn = t.emn) (h : HomeRow) : s.suspectOf h = t.suspectOf h := by
  simp only [State.suspectOf, e]

theorem State.isQueued_congr {s t : State} (e : s.mge = t.mge) (h : HomeRow) : s.isQueued h = t.isQueued h := by
  simp only [State.isQueued, e]

theorem State.counter_congr {s t : State} (e : s.counters = t.counters) (k : Counter) : s.counter k = t.counter k := by
  simp only [State.counter, e]

theorem State.isEnabled_congr {s t : State} (e : s.alc = t.alc) (c : Cause) : s.isEnabled c = t.isEnabled c := by
  simp only [State.isEnabled, e]

theorem State.inReset_congr {s t : State} (e : s.rst = t.rst) : s.inReset = t.inReset := by
  simp only [State.inReset, e]

end Sys2Proof.Machine
end

