-- ==== Sys2Proof/Laws/Ops.lean ====
section
/-! SUPPORT. What each shared operation on the tables leaves unchanged. -/

namespace Sys2Proof.Machine

variable (s : State)

@[simp] theorem isDue_none : isDue none = false := rfl

@[simp] theorem isDue_some (t : Interval) : isDue (some t) = decide (t.length ≤ t.elapsed) := rfl

/-- A timer just started is not due, so an expiry that waited behind its start does not happen. -/
@[simp] theorem isDue_startTimer (n : Nat) : isDue (startTimer n) = decide (n = 0) := by simp [startTimer]

@[simp] theorem State.bump_frame (k : Counter) :
    (s.bump k).pins = s.pins ∧ (s.bump k).rst = s.rst ∧ (s.bump k).rmt = s.rmt ∧ (s.bump k).spl = s.spl ∧
      (s.bump k).emn = s.emn ∧ (s.bump k).mge = s.mge ∧ (s.bump k).psc = s.psc ∧ (s.bump k).prf = s.prf ∧
      (s.bump k).up = s.up ∧ (s.bump k).dp = s.dp ∧ (s.bump k).alc = s.alc ∧ (s.bump k).mgp = s.mgp ∧
      (s.bump k).wires = s.wires ∧ (s.bump k).pending = s.pending :=
  ⟨rfl, rfl, rfl, rfl, rfl, rfl, rfl, rfl, rfl, rfl, rfl, rfl, rfl, rfl⟩

@[simp] theorem State.raise_frame (c : Cause) :
    (s.raise c).pins = s.pins ∧ (s.raise c).rst = s.rst ∧ (s.raise c).rmt = s.rmt ∧ (s.raise c).spl = s.spl ∧
      (s.raise c).emn = s.emn ∧ (s.raise c).mge = s.mge ∧ (s.raise c).psc = s.psc ∧ (s.raise c).prf = s.prf ∧
      (s.raise c).up = s.up ∧ (s.raise c).dp = s.dp ∧ (s.raise c).mgp = s.mgp ∧
      (s.raise c).counters = s.counters ∧ (s.raise c).wires = s.wires ∧ (s.raise c).pending = s.pending :=
  ⟨rfl, rfl, rfl, rfl, rfl, rfl, rfl, rfl, rfl, rfl, rfl, rfl, rfl, rfl⟩

@[simp] theorem State.clearCause_frame (c : Cause) :
    (s.clearCause c).pins = s.pins ∧ (s.clearCause c).rst = s.rst ∧ (s.clearCause c).rmt = s.rmt ∧
      (s.clearCause c).spl = s.spl ∧ (s.clearCause c).emn = s.emn ∧ (s.clearCause c).mge = s.mge ∧
      (s.clearCause c).psc = s.psc ∧ (s.clearCause c).prf = s.prf ∧ (s.clearCause c).up = s.up ∧
      (s.clearCause c).dp = s.dp ∧ (s.clearCause c).mgp = s.mgp ∧ (s.clearCause c).counters = s.counters ∧
      (s.clearCause c).wires = s.wires ∧ (s.clearCause c).pending = s.pending :=
  ⟨rfl, rfl, rfl, rfl, rfl, rfl, rfl, rfl, rfl, rfl, rfl, rfl, rfl, rfl⟩

@[simp] theorem State.startDecay_frame :
    s.startDecay.pins = s.pins ∧ s.startDecay.rst = s.rst ∧ s.startDecay.rmt = s.rmt ∧
      s.startDecay.spl = s.spl ∧ s.startDecay.mge = s.mge ∧ s.startDecay.psc = s.psc ∧
      s.startDecay.prf = s.prf ∧ s.startDecay.up = s.up ∧ s.startDecay.dp = s.dp ∧ s.startDecay.alc = s.alc ∧
      s.startDecay.mgp = s.mgp ∧ s.startDecay.counters = s.counters ∧ s.startDecay.wires = s.wires ∧
      s.startDecay.pending = s.pending :=
  ⟨rfl, rfl, rfl, rfl, rfl, rfl, rfl, rfl, rfl, rfl, rfl, rfl, rfl, rfl⟩

@[simp] theorem State.retimeDecay_frame (old : Nat) :
    (s.retimeDecay old).pins = s.pins ∧ (s.retimeDecay old).rst = s.rst ∧ (s.retimeDecay old).rmt = s.rmt ∧
      (s.retimeDecay old).spl = s.spl ∧ (s.retimeDecay old).mge = s.mge ∧ (s.retimeDecay old).psc = s.psc ∧
      (s.retimeDecay old).prf = s.prf ∧ (s.retimeDecay old).up = s.up ∧ (s.retimeDecay old).dp = s.dp ∧
      (s.retimeDecay old).alc = s.alc ∧ (s.retimeDecay old).mgp = s.mgp ∧
      (s.retimeDecay old).counters = s.counters ∧ (s.retimeDecay old).wires = s.wires ∧
      (s.retimeDecay old).pending = s.pending := by
  unfold State.retimeDecay
  (repeat' split) <;> simp

@[simp] theorem State.putSlot_frame (i : Fin 128) (e : Option RemapEntry) :
    (s.putSlot i e).pins = s.pins ∧ (s.putSlot i e).rst = s.rst ∧ (s.putSlot i e).spl = s.spl ∧
      (s.putSlot i e).emn = s.emn ∧ (s.putSlot i e).mge = s.mge ∧ (s.putSlot i e).psc = s.psc ∧
      (s.putSlot i e).prf = s.prf ∧ (s.putSlot i e).up = s.up ∧ (s.putSlot i e).dp = s.dp ∧
      (s.putSlot i e).alc = s.alc ∧ (s.putSlot i e).mgp = s.mgp ∧ (s.putSlot i e).counters = s.counters ∧
      (s.putSlot i e).wires = s.wires ∧ (s.putSlot i e).pending = s.pending :=
  ⟨rfl, rfl, rfl, rfl, rfl, rfl, rfl, rfl, rfl, rfl, rfl, rfl, rfl, rfl⟩

@[simp] theorem State.putSpare_frame (b i : Fin 16) (x : SpareState) :
    (s.putSpare b i x).pins = s.pins ∧ (s.putSpare b i x).rst = s.rst ∧ (s.putSpare b i x).rmt = s.rmt ∧
      (s.putSpare b i x).emn = s.emn ∧ (s.putSpare b i x).mge = s.mge ∧ (s.putSpare b i x).psc = s.psc ∧
      (s.putSpare b i x).prf = s.prf ∧ (s.putSpare b i x).up = s.up ∧ (s.putSpare b i x).dp = s.dp ∧
      (s.putSpare b i x).alc = s.alc ∧ (s.putSpare b i x).mgp = s.mgp ∧
      (s.putSpare b i x).counters = s.counters ∧ (s.putSpare b i x).wires = s.wires ∧
      (s.putSpare b i x).pending = s.pending :=
  ⟨rfl, rfl, rfl, rfl, rfl, rfl, rfl, rfl, rfl, rfl, rfl, rfl, rfl, rfl⟩

@[simp] theorem State.checkWatermark_frame (b : Fin 16) :
    (s.checkWatermark b).pins = s.pins ∧ (s.checkWatermark b).rst = s.rst ∧ (s.checkWatermark b).rmt = s.rmt ∧
      (s.checkWatermark b).spl = s.spl ∧ (s.checkWatermark b).emn = s.emn ∧ (s.checkWatermark b).mge = s.mge ∧
      (s.checkWatermark b).psc = s.psc ∧ (s.checkWatermark b).prf = s.prf ∧ (s.checkWatermark b).up = s.up ∧
      (s.checkWatermark b).dp = s.dp ∧ (s.checkWatermark b).mgp = s.mgp ∧
      (s.checkWatermark b).counters = s.counters ∧ (s.checkWatermark b).wires = s.wires ∧
      (s.checkWatermark b).pending = s.pending := by
  unfold State.checkWatermark
  (repeat' split) <;> simp

@[simp] theorem State.putSuspects_frame (l : List SuspectRecord) :
    (s.putSuspects l).pins = s.pins ∧ (s.putSuspects l).rst = s.rst ∧ (s.putSuspects l).rmt = s.rmt ∧
      (s.putSuspects l).spl = s.spl ∧ (s.putSuspects l).mge = s.mge ∧ (s.putSuspects l).psc = s.psc ∧
      (s.putSuspects l).prf = s.prf ∧ (s.putSuspects l).up = s.up ∧ (s.putSuspects l).dp = s.dp ∧
      (s.putSuspects l).alc = s.alc ∧ (s.putSuspects l).mgp = s.mgp ∧ (s.putSuspects l).counters = s.counters ∧
      (s.putSuspects l).wires = s.wires ∧ (s.putSuspects l).pending = s.pending :=
  ⟨rfl, rfl, rfl, rfl, rfl, rfl, rfl, rfl, rfl, rfl, rfl, rfl, rfl, rfl⟩

@[simp] theorem State.dropSuspect_frame (h : HomeRow) :
    (s.dropSuspect h).pins = s.pins ∧ (s.dropSuspect h).rst = s.rst ∧ (s.dropSuspect h).rmt = s.rmt ∧
      (s.dropSuspect h).spl = s.spl ∧ (s.dropSuspect h).mge = s.mge ∧ (s.dropSuspect h).psc = s.psc ∧
      (s.dropSuspect h).prf = s.prf ∧ (s.dropSuspect h).up = s.up ∧ (s.dropSuspect h).dp = s.dp ∧
      (s.dropSuspect h).alc = s.alc ∧ (s.dropSuspect h).mgp = s.mgp ∧ (s.dropSuspect h).counters = s.counters ∧
      (s.dropSuspect h).wires = s.wires ∧ (s.dropSuspect h).pending = s.pending :=
  ⟨rfl, rfl, rfl, rfl, rfl, rfl, rfl, rfl, rfl, rfl, rfl, rfl, rfl, rfl⟩

@[simp] theorem State.unpin_frame (h : HomeRow) :
    (s.unpin h).pins = s.pins ∧ (s.unpin h).rst = s.rst ∧ (s.unpin h).rmt = s.rmt ∧ (s.unpin h).spl = s.spl ∧
      (s.unpin h).mge = s.mge ∧ (s.unpin h).psc = s.psc ∧ (s.unpin h).prf = s.prf ∧ (s.unpin h).up = s.up ∧
      (s.unpin h).dp = s.dp ∧ (s.unpin h).alc = s.alc ∧ (s.unpin h).mgp = s.mgp ∧
      (s.unpin h).counters = s.counters ∧ (s.unpin h).wires = s.wires ∧ (s.unpin h).pending = s.pending :=
  ⟨rfl, rfl, rfl, rfl, rfl, rfl, rfl, rfl, rfl, rfl, rfl, rfl, rfl, rfl⟩

@[simp] theorem State.putQueue_frame (q : List RepairRequest) :
    (s.putQueue q).pins = s.pins ∧ (s.putQueue q).rst = s.rst ∧ (s.putQueue q).rmt = s.rmt ∧
      (s.putQueue q).spl = s.spl ∧ (s.putQueue q).emn = s.emn ∧ (s.putQueue q).psc = s.psc ∧
      (s.putQueue q).prf = s.prf ∧ (s.putQueue q).up = s.up ∧ (s.putQueue q).dp = s.dp ∧
      (s.putQueue q).alc = s.alc ∧ (s.putQueue q).mgp = s.mgp ∧ (s.putQueue q).counters = s.counters ∧
      (s.putQueue q).wires = s.wires ∧ (s.putQueue q).pending = s.pending :=
  ⟨rfl, rfl, rfl, rfl, rfl, rfl, rfl, rfl, rfl, rfl, rfl, rfl, rfl, rfl⟩

@[simp] theorem State.candidateEvent_frame (h : HomeRow) :
    (s.candidateEvent h).pins = s.pins ∧ (s.candidateEvent h).rst = s.rst ∧ (s.candidateEvent h).rmt = s.rmt ∧
      (s.candidateEvent h).spl = s.spl ∧ (s.candidateEvent h).emn = s.emn ∧ (s.candidateEvent h).psc = s.psc ∧
      (s.candidateEvent h).prf = s.prf ∧ (s.candidateEvent h).up = s.up ∧ (s.candidateEvent h).dp = s.dp ∧
      (s.candidateEvent h).mgp = s.mgp ∧ (s.candidateEvent h).counters = s.counters ∧
      (s.candidateEvent h).wires = s.wires ∧ (s.candidateEvent h).pending = s.pending := by
  unfold State.candidateEvent
  (repeat' split) <;> simp

@[simp] theorem State.insertSuspect_frame (r : SuspectRecord) (l : List SuspectRecord) :
    (s.insertSuspect r l).pins = s.pins ∧ (s.insertSuspect r l).rst = s.rst ∧
      (s.insertSuspect r l).rmt = s.rmt ∧ (s.insertSuspect r l).spl = s.spl ∧
      (s.insertSuspect r l).psc = s.psc ∧ (s.insertSuspect r l).prf = s.prf ∧ (s.insertSuspect r l).up = s.up ∧
      (s.insertSuspect r l).dp = s.dp ∧ (s.insertSuspect r l).mgp = s.mgp ∧
      (s.insertSuspect r l).counters = s.counters ∧ (s.insertSuspect r l).wires = s.wires ∧
      (s.insertSuspect r l).pending = s.pending := by
  unfold State.insertSuspect
  (repeat' split) <;> simp

@[simp] theorem State.suspectUpdate_frame (h : HomeRow) (ue : Bool) (o : SuspectOrigin) :
    (s.suspectUpdate h ue o).pins = s.pins ∧ (s.suspectUpdate h ue o).rst = s.rst ∧
      (s.suspectUpdate h ue o).rmt = s.rmt ∧ (s.suspectUpdate h ue o).spl = s.spl ∧
      (s.suspectUpdate h ue o).psc = s.psc ∧ (s.suspectUpdate h ue o).prf = s.prf ∧
      (s.suspectUpdate h ue o).up = s.up ∧ (s.suspectUpdate h ue o).dp = s.dp ∧
      (s.suspectUpdate h ue o).mgp = s.mgp ∧ (s.suspectUpdate h ue o).wires = s.wires ∧
      (s.suspectUpdate h ue o).pending = s.pending := by
  unfold State.suspectUpdate
  (repeat' split) <;> simp

@[simp] theorem State.addLoss_frame (h : HomeRow) (k : Fin 32) (o : LossOrigin) :
    (s.addLoss h k o).pins = s.pins ∧ (s.addLoss h k o).rst = s.rst ∧ (s.addLoss h k o).rmt = s.rmt ∧
      (s.addLoss h k o).spl = s.spl ∧ (s.addLoss h k o).mge = s.mge ∧ (s.addLoss h k o).psc = s.psc ∧
      (s.addLoss h k o).prf = s.prf ∧ (s.addLoss h k o).up = s.up ∧ (s.addLoss h k o).dp = s.dp ∧
      (s.addLoss h k o).alc = s.alc ∧ (s.addLoss h k o).mgp = s.mgp ∧ (s.addLoss h k o).wires = s.wires ∧
      (s.addLoss h k o).pending = s.pending := by
  unfold State.addLoss
  (repeat' split) <;> simp

@[simp] theorem State.attributeHost_frame (h : HomeRow) (st : AnswerStatus) :
    (s.attributeHost h st).pins = s.pins ∧ (s.attributeHost h st).rst = s.rst ∧
      (s.attributeHost h st).rmt = s.rmt ∧ (s.attributeHost h st).spl = s.spl ∧
      (s.attributeHost h st).psc = s.psc ∧ (s.attributeHost h st).prf = s.prf ∧
      (s.attributeHost h st).up = s.up ∧ (s.attributeHost h st).dp = s.dp ∧
      (s.attributeHost h st).mgp = s.mgp ∧ (s.attributeHost h st).wires = s.wires ∧
      (s.attributeHost h st).pending = s.pending := by
  cases st <;> simp [State.attributeHost]

@[simp] theorem State.attributeScrub_frame (h : HomeRow) (k : Fin 32) (st : AnswerStatus) :
    (s.attributeScrub h k st).pins = s.pins ∧ (s.attributeScrub h k st).rst = s.rst ∧
      (s.attributeScrub h k st).rmt = s.rmt ∧ (s.attributeScrub h k st).spl = s.spl ∧
      (s.attributeScrub h k st).psc = s.psc ∧ (s.attributeScrub h k st).prf = s.prf ∧
      (s.attributeScrub h k st).up = s.up ∧ (s.attributeScrub h k st).dp = s.dp ∧
      (s.attributeScrub h k st).mgp = s.mgp ∧ (s.attributeScrub h k st).wires = s.wires ∧
      (s.attributeScrub h k st).pending = s.pending := by
  cases st <;> simp [State.attributeScrub]

@[simp] theorem State.retireOld_frame (b : Fin 16) (old : Option (Fin 16)) :
    (s.retireOld b old).pins = s.pins ∧ (s.retireOld b old).rst = s.rst ∧ (s.retireOld b old).rmt = s.rmt ∧
      (s.retireOld b old).emn = s.emn ∧ (s.retireOld b old).mge = s.mge ∧ (s.retireOld b old).psc = s.psc ∧
      (s.retireOld b old).prf = s.prf ∧ (s.retireOld b old).up = s.up ∧ (s.retireOld b old).dp = s.dp ∧
      (s.retireOld b old).alc = s.alc ∧ (s.retireOld b old).mgp = s.mgp ∧
      (s.retireOld b old).counters = s.counters ∧ (s.retireOld b old).wires = s.wires ∧
      (s.retireOld b old).pending = s.pending := by
  cases old <;> simp [State.retireOld]

@[simp] theorem State.commitSlot_frame (i : Fin 128) :
    (s.commitSlot i).pins = s.pins ∧ (s.commitSlot i).rst = s.rst ∧ (s.commitSlot i).mge = s.mge ∧
      (s.commitSlot i).psc = s.psc ∧ (s.commitSlot i).prf = s.prf ∧ (s.commitSlot i).up = s.up ∧
      (s.commitSlot i).dp = s.dp ∧ (s.commitSlot i).alc = s.alc ∧ (s.commitSlot i).mgp = s.mgp ∧
      (s.commitSlot i).counters = s.counters ∧ (s.commitSlot i).wires = s.wires ∧
      (s.commitSlot i).pending = s.pending := by
  unfold State.commitSlot
  (repeat' split) <;> simp

@[simp] theorem State.rollbackSlot_frame (i : Fin 128) :
    (s.rollbackSlot i).pins = s.pins ∧ (s.rollbackSlot i).rst = s.rst ∧ (s.rollbackSlot i).mge = s.mge ∧
      (s.rollbackSlot i).psc = s.psc ∧ (s.rollbackSlot i).prf = s.prf ∧ (s.rollbackSlot i).up = s.up ∧
      (s.rollbackSlot i).dp = s.dp ∧ (s.rollbackSlot i).alc = s.alc ∧ (s.rollbackSlot i).mgp = s.mgp ∧
      (s.rollbackSlot i).counters = s.counters ∧ (s.rollbackSlot i).wires = s.wires ∧
      (s.rollbackSlot i).pending = s.pending := by
  unfold State.rollbackSlot
  (repeat' split) <;> simp

end Sys2Proof.Machine
end

