-- ==== Sys2Proof/Laws/Engines.lean ====
section
/-! SUPPORT. What each shared operation of the engines leaves unchanged. -/

namespace Sys2Proof.Machine

variable (s : State)

@[simp] theorem State.putStarvation_frame (n : Nat) :
    (s.putStarvation n).pins = s.pins ∧ (s.putStarvation n).rst = s.rst ∧ (s.putStarvation n).rmt = s.rmt ∧
      (s.putStarvation n).spl = s.spl ∧ (s.putStarvation n).emn = s.emn ∧ (s.putStarvation n).mge = s.mge ∧
      (s.putStarvation n).psc = s.psc ∧ (s.putStarvation n).prf = s.prf ∧ (s.putStarvation n).up = s.up ∧
      (s.putStarvation n).alc = s.alc ∧ (s.putStarvation n).mgp = s.mgp ∧
      (s.putStarvation n).counters = s.counters ∧ (s.putStarvation n).wires = s.wires ∧
      (s.putStarvation n).pending = s.pending :=
  ⟨rfl, rfl, rfl, rfl, rfl, rfl, rfl, rfl, rfl, rfl, rfl, rfl, rfl, rfl⟩

@[simp] theorem State.settleStarvation_frame :
    s.settleStarvation.pins = s.pins ∧ s.settleStarvation.rst = s.rst ∧ s.settleStarvation.rmt = s.rmt ∧
      s.settleStarvation.spl = s.spl ∧ s.settleStarvation.emn = s.emn ∧ s.settleStarvation.mge = s.mge ∧
      s.settleStarvation.psc = s.psc ∧ s.settleStarvation.prf = s.prf ∧ s.settleStarvation.up = s.up ∧
      s.settleStarvation.alc = s.alc ∧ s.settleStarvation.mgp = s.mgp ∧
      s.settleStarvation.counters = s.counters ∧ s.settleStarvation.wires = s.wires ∧
      s.settleStarvation.pending = s.pending := by
  unfold State.settleStarvation
  (repeat' split) <;> simp

@[simp] theorem State.putCtx_frame (c : Option MigContext) :
    (s.putCtx c).pins = s.pins ∧ (s.putCtx c).rst = s.rst ∧ (s.putCtx c).rmt = s.rmt ∧
      (s.putCtx c).spl = s.spl ∧ (s.putCtx c).emn = s.emn ∧ (s.putCtx c).psc = s.psc ∧
      (s.putCtx c).prf = s.prf ∧ (s.putCtx c).up = s.up ∧ (s.putCtx c).dp = s.dp ∧ (s.putCtx c).alc = s.alc ∧
      (s.putCtx c).mgp = s.mgp ∧ (s.putCtx c).counters = s.counters ∧ (s.putCtx c).wires = s.wires ∧
      (s.putCtx c).pending = s.pending :=
  ⟨rfl, rfl, rfl, rfl, rfl, rfl, rfl, rfl, rfl, rfl, rfl, rfl, rfl, rfl⟩

@[simp] theorem State.putLast_frame (o : LastOutcome) :
    (s.putLast o).pins = s.pins ∧ (s.putLast o).rst = s.rst ∧ (s.putLast o).rmt = s.rmt ∧
      (s.putLast o).spl = s.spl ∧ (s.putLast o).emn = s.emn ∧ (s.putLast o).psc = s.psc ∧
      (s.putLast o).prf = s.prf ∧ (s.putLast o).up = s.up ∧ (s.putLast o).dp = s.dp ∧
      (s.putLast o).alc = s.alc ∧ (s.putLast o).mgp = s.mgp ∧ (s.putLast o).counters = s.counters ∧
      (s.putLast o).wires = s.wires ∧ (s.putLast o).pending = s.pending :=
  ⟨rfl, rfl, rfl, rfl, rfl, rfl, rfl, rfl, rfl, rfl, rfl, rfl, rfl, rfl⟩

@[simp] theorem State.putFifo_frame (l : List FifoEntry) :
    (s.putFifo l).pins = s.pins ∧ (s.putFifo l).rst = s.rst ∧ (s.putFifo l).rmt = s.rmt ∧
      (s.putFifo l).spl = s.spl ∧ (s.putFifo l).emn = s.emn ∧ (s.putFifo l).mge = s.mge ∧
      (s.putFifo l).psc = s.psc ∧ (s.putFifo l).prf = s.prf ∧ (s.putFifo l).up = s.up ∧
      (s.putFifo l).alc = s.alc ∧ (s.putFifo l).mgp = s.mgp ∧ (s.putFifo l).counters = s.counters ∧
      (s.putFifo l).wires = s.wires ∧ (s.putFifo l).pending = s.pending :=
  ⟨rfl, rfl, rfl, rfl, rfl, rfl, rfl, rfl, rfl, rfl, rfl, rfl, rfl, rfl⟩

@[simp] theorem State.abortMigration_frame (o : MigOutcome) (a : Bool) :
    (s.abortMigration o a).pins = s.pins ∧ (s.abortMigration o a).rst = s.rst ∧
      (s.abortMigration o a).psc = s.psc ∧ (s.abortMigration o a).prf = s.prf ∧
      (s.abortMigration o a).up = s.up ∧ (s.abortMigration o a).mgp = s.mgp ∧
      (s.abortMigration o a).wires = s.wires ∧ (s.abortMigration o a).pending = s.pending := by
  unfold State.abortMigration
  (repeat' split) <;> simp

@[simp] theorem State.retryDecision_frame (c : MigContext) :
    (s.retryDecision c).pins = s.pins ∧ (s.retryDecision c).rst = s.rst ∧ (s.retryDecision c).psc = s.psc ∧
      (s.retryDecision c).prf = s.prf ∧ (s.retryDecision c).up = s.up ∧ (s.retryDecision c).mgp = s.mgp ∧
      (s.retryDecision c).wires = s.wires ∧ (s.retryDecision c).pending = s.pending := by
  unfold State.retryDecision
  (repeat' split) <;> simp

@[simp] theorem State.endOfCopy_frame (c : MigContext) :
    (s.endOfCopy c).pins = s.pins ∧ (s.endOfCopy c).rst = s.rst ∧ (s.endOfCopy c).psc = s.psc ∧
      (s.endOfCopy c).prf = s.prf ∧ (s.endOfCopy c).up = s.up ∧ (s.endOfCopy c).dp = s.dp ∧
      (s.endOfCopy c).mgp = s.mgp ∧ (s.endOfCopy c).wires = s.wires ∧ (s.endOfCopy c).pending = s.pending := by
  unfold State.endOfCopy
  (repeat' split) <;> simp

@[simp] theorem State.migNotice_frame (h : HomeRow) (k : Fin 32) :
    (s.migNotice h k).pins = s.pins ∧ (s.migNotice h k).rst = s.rst ∧ (s.migNotice h k).rmt = s.rmt ∧
      (s.migNotice h k).spl = s.spl ∧ (s.migNotice h k).emn = s.emn ∧ (s.migNotice h k).psc = s.psc ∧
      (s.migNotice h k).prf = s.prf ∧ (s.migNotice h k).up = s.up ∧ (s.migNotice h k).dp = s.dp ∧
      (s.migNotice h k).alc = s.alc ∧ (s.migNotice h k).mgp = s.mgp ∧ (s.migNotice h k).counters = s.counters ∧
      (s.migNotice h k).wires = s.wires ∧ (s.migNotice h k).pending = s.pending := by
  unfold State.migNotice
  (repeat' split) <;> simp

@[simp] theorem State.putLine_frame (l : Option ScrubLine) :
    (s.putLine l).pins = s.pins ∧ (s.putLine l).rst = s.rst ∧ (s.putLine l).rmt = s.rmt ∧
      (s.putLine l).spl = s.spl ∧ (s.putLine l).emn = s.emn ∧ (s.putLine l).mge = s.mge ∧
      (s.putLine l).prf = s.prf ∧ (s.putLine l).up = s.up ∧ (s.putLine l).dp = s.dp ∧
      (s.putLine l).alc = s.alc ∧ (s.putLine l).mgp = s.mgp ∧ (s.putLine l).counters = s.counters ∧
      (s.putLine l).wires = s.wires ∧ (s.putLine l).pending = s.pending :=
  ⟨rfl, rfl, rfl, rfl, rfl, rfl, rfl, rfl, rfl, rfl, rfl, rfl, rfl, rfl⟩

@[simp] theorem State.passWrap_frame :
    s.passWrap.pins = s.pins ∧ s.passWrap.rst = s.rst ∧ s.passWrap.rmt = s.rmt ∧ s.passWrap.spl = s.spl ∧
      s.passWrap.emn = s.emn ∧ s.passWrap.mge = s.mge ∧ s.passWrap.prf = s.prf ∧ s.passWrap.up = s.up ∧
      s.passWrap.dp = s.dp ∧ s.passWrap.mgp = s.mgp ∧ s.passWrap.wires = s.wires ∧
      s.passWrap.pending = s.pending := by
  unfold State.passWrap
  (repeat' split) <;> simp

@[simp] theorem State.moveCursor_frame (n : Nat) :
    (s.moveCursor n).pins = s.pins ∧ (s.moveCursor n).rst = s.rst ∧ (s.moveCursor n).rmt = s.rmt ∧
      (s.moveCursor n).spl = s.spl ∧ (s.moveCursor n).emn = s.emn ∧ (s.moveCursor n).mge = s.mge ∧
      (s.moveCursor n).prf = s.prf ∧ (s.moveCursor n).up = s.up ∧ (s.moveCursor n).dp = s.dp ∧
      (s.moveCursor n).mgp = s.mgp ∧ (s.moveCursor n).wires = s.wires ∧ (s.moveCursor n).pending = s.pending := by
  unfold State.moveCursor
  (repeat' split) <;> simp

@[simp] theorem State.endLine_frame :
    s.endLine.pins = s.pins ∧ s.endLine.rst = s.rst ∧ s.endLine.rmt = s.rmt ∧ s.endLine.spl = s.spl ∧
      s.endLine.emn = s.emn ∧ s.endLine.mge = s.mge ∧ s.endLine.prf = s.prf ∧ s.endLine.up = s.up ∧
      s.endLine.dp = s.dp ∧ s.endLine.mgp = s.mgp ∧ s.endLine.wires = s.wires ∧ s.endLine.pending = s.pending := by
  simp [State.endLine]

@[simp] theorem State.rowSkip_frame :
    s.rowSkip.pins = s.pins ∧ s.rowSkip.rst = s.rst ∧ s.rowSkip.rmt = s.rmt ∧ s.rowSkip.spl = s.spl ∧
      s.rowSkip.emn = s.emn ∧ s.rowSkip.mge = s.mge ∧ s.rowSkip.prf = s.prf ∧ s.rowSkip.up = s.up ∧
      s.rowSkip.dp = s.dp ∧ s.rowSkip.mgp = s.mgp ∧ s.rowSkip.wires = s.wires ∧ s.rowSkip.pending = s.pending := by
  simp [State.rowSkip]

@[simp] theorem State.beginScrubLine_frame (n : Nat) :
    (State.beginScrubLine n s).pins = s.pins ∧ (State.beginScrubLine n s).rst = s.rst ∧
      (State.beginScrubLine n s).rmt = s.rmt ∧ (State.beginScrubLine n s).spl = s.spl ∧
      (State.beginScrubLine n s).emn = s.emn ∧ (State.beginScrubLine n s).mge = s.mge ∧
      (State.beginScrubLine n s).prf = s.prf ∧ (State.beginScrubLine n s).up = s.up ∧
      (State.beginScrubLine n s).dp = s.dp ∧ (State.beginScrubLine n s).mgp = s.mgp ∧
      (State.beginScrubLine n s).wires = s.wires ∧ (State.beginScrubLine n s).pending = s.pending := by
  induction n generalizing s with
  | zero => simp [State.beginScrubLine]
  | succ n ih =>
    unfold State.beginScrubLine
    (repeat' split) <;> simp [ih]

@[simp] theorem State.runScrubber_frame (m : ScrubMode) :
    (s.runScrubber m).pins = s.pins ∧ (s.runScrubber m).rst = s.rst ∧ (s.runScrubber m).rmt = s.rmt ∧
      (s.runScrubber m).spl = s.spl ∧ (s.runScrubber m).emn = s.emn ∧ (s.runScrubber m).mge = s.mge ∧
      (s.runScrubber m).prf = s.prf ∧ (s.runScrubber m).up = s.up ∧ (s.runScrubber m).dp = s.dp ∧
      (s.runScrubber m).alc = s.alc ∧ (s.runScrubber m).mgp = s.mgp ∧ (s.runScrubber m).counters = s.counters ∧
      (s.runScrubber m).wires = s.wires ∧ (s.runScrubber m).pending = s.pending :=
  ⟨rfl, rfl, rfl, rfl, rfl, rfl, rfl, rfl, rfl, rfl, rfl, rfl, rfl, rfl⟩

@[simp] theorem State.pauseScrubber_frame :
    s.pauseScrubber.pins = s.pins ∧ s.pauseScrubber.rst = s.rst ∧ s.pauseScrubber.rmt = s.rmt ∧
      s.pauseScrubber.spl = s.spl ∧ s.pauseScrubber.emn = s.emn ∧ s.pauseScrubber.mge = s.mge ∧
      s.pauseScrubber.prf = s.prf ∧ s.pauseScrubber.up = s.up ∧ s.pauseScrubber.dp = s.dp ∧
      s.pauseScrubber.alc = s.alc ∧ s.pauseScrubber.mgp = s.mgp ∧ s.pauseScrubber.counters = s.counters ∧
      s.pauseScrubber.wires = s.wires ∧ s.pauseScrubber.pending = s.pending := by
  unfold State.pauseScrubber
  (repeat' split) <;> simp

@[simp] theorem State.resumeScrubber_frame :
    s.resumeScrubber.pins = s.pins ∧ s.resumeScrubber.rst = s.rst ∧ s.resumeScrubber.rmt = s.rmt ∧
      s.resumeScrubber.spl = s.spl ∧ s.resumeScrubber.emn = s.emn ∧ s.resumeScrubber.mge = s.mge ∧
      s.resumeScrubber.prf = s.prf ∧ s.resumeScrubber.up = s.up ∧ s.resumeScrubber.dp = s.dp ∧
      s.resumeScrubber.alc = s.alc ∧ s.resumeScrubber.mgp = s.mgp ∧ s.resumeScrubber.counters = s.counters ∧
      s.resumeScrubber.wires = s.wires ∧ s.resumeScrubber.pending = s.pending := by
  unfold State.resumeScrubber
  (repeat' split) <;> simp

@[simp] theorem State.scrubNotice_frame (h : HomeRow) (k : Fin 32) :
    (s.scrubNotice h k).pins = s.pins ∧ (s.scrubNotice h k).rst = s.rst ∧ (s.scrubNotice h k).rmt = s.rmt ∧
      (s.scrubNotice h k).spl = s.spl ∧ (s.scrubNotice h k).emn = s.emn ∧ (s.scrubNotice h k).mge = s.mge ∧
      (s.scrubNotice h k).prf = s.prf ∧ (s.scrubNotice h k).up = s.up ∧ (s.scrubNotice h k).dp = s.dp ∧
      (s.scrubNotice h k).alc = s.alc ∧ (s.scrubNotice h k).mgp = s.mgp ∧
      (s.scrubNotice h k).counters = s.counters ∧ (s.scrubNotice h k).wires = s.wires ∧
      (s.scrubNotice h k).pending = s.pending := by
  unfold State.scrubNotice
  (repeat' split) <;> simp

end Sys2Proof.Machine
end

