-- ==== Sys2Proof/Laws/Ports.lean ====
section
/-! SUPPORT. What each shared operation of the two ports leaves unchanged. -/

namespace Sys2Proof.Machine

variable (s : State)

@[simp] theorem State.issue_frame (e : FifoEntry) (request : List Byte) :
    (s.issue e request).pins = s.pins ∧ (s.issue e request).rst = s.rst ∧ (s.issue e request).rmt = s.rmt ∧
      (s.issue e request).spl = s.spl ∧ (s.issue e request).emn = s.emn ∧ (s.issue e request).mge = s.mge ∧
      (s.issue e request).psc = s.psc ∧ (s.issue e request).prf = s.prf ∧ (s.issue e request).up = s.up ∧
      (s.issue e request).alc = s.alc ∧ (s.issue e request).mgp = s.mgp ∧
      (s.issue e request).counters = s.counters ∧ (s.issue e request).pending = s.pending :=
  ⟨rfl, rfl, rfl, rfl, rfl, rfl, rfl, rfl, rfl, rfl, rfl, rfl, rfl⟩

@[simp] theorem State.popFifo_frame (l : List FifoEntry) :
    (s.popFifo l).pins = s.pins ∧ (s.popFifo l).rst = s.rst ∧ (s.popFifo l).rmt = s.rmt ∧
      (s.popFifo l).spl = s.spl ∧ (s.popFifo l).emn = s.emn ∧ (s.popFifo l).mge = s.mge ∧
      (s.popFifo l).psc = s.psc ∧ (s.popFifo l).prf = s.prf ∧ (s.popFifo l).up = s.up ∧
      (s.popFifo l).alc = s.alc ∧ (s.popFifo l).mgp = s.mgp ∧ (s.popFifo l).counters = s.counters ∧
      (s.popFifo l).wires = s.wires ∧ (s.popFifo l).pending = s.pending :=
  ⟨rfl, rfl, rfl, rfl, rfl, rfl, rfl, rfl, rfl, rfl, rfl, rfl, rfl, rfl⟩

@[simp] theorem State.putRecord_frame (tag : Fin 64) (r : Option HostRecord) :
    (s.putRecord tag r).pins = s.pins ∧ (s.putRecord tag r).rst = s.rst ∧ (s.putRecord tag r).rmt = s.rmt ∧
      (s.putRecord tag r).spl = s.spl ∧ (s.putRecord tag r).emn = s.emn ∧ (s.putRecord tag r).mge = s.mge ∧
      (s.putRecord tag r).psc = s.psc ∧ (s.putRecord tag r).prf = s.prf ∧ (s.putRecord tag r).dp = s.dp ∧
      (s.putRecord tag r).alc = s.alc ∧ (s.putRecord tag r).mgp = s.mgp ∧
      (s.putRecord tag r).counters = s.counters ∧ (s.putRecord tag r).wires = s.wires ∧
      (s.putRecord tag r).pending = s.pending :=
  ⟨rfl, rfl, rfl, rfl, rfl, rfl, rfl, rfl, rfl, rfl, rfl, rfl, rfl, rfl⟩

@[simp] theorem State.respond_frame (tag : Fin 64) (st : HostStatus) (d : List Byte) :
    (s.respond tag st d).pins = s.pins ∧ (s.respond tag st d).rst = s.rst ∧ (s.respond tag st d).rmt = s.rmt ∧
      (s.respond tag st d).spl = s.spl ∧ (s.respond tag st d).emn = s.emn ∧ (s.respond tag st d).mge = s.mge ∧
      (s.respond tag st d).psc = s.psc ∧ (s.respond tag st d).prf = s.prf ∧ (s.respond tag st d).dp = s.dp ∧
      (s.respond tag st d).alc = s.alc ∧ (s.respond tag st d).mgp = s.mgp ∧
      (s.respond tag st d).counters = s.counters ∧ (s.respond tag st d).pending = s.pending :=
  ⟨rfl, rfl, rfl, rfl, rfl, rfl, rfl, rfl, rfl, rfl, rfl, rfl, rfl⟩

@[simp] theorem State.upstreamEntry_frame :
    s.upstreamEntry.pins = s.pins ∧ s.upstreamEntry.rst = s.rst ∧ s.upstreamEntry.rmt = s.rmt ∧
      s.upstreamEntry.spl = s.spl ∧ s.upstreamEntry.emn = s.emn ∧ s.upstreamEntry.mge = s.mge ∧
      s.upstreamEntry.psc = s.psc ∧ s.upstreamEntry.prf = s.prf ∧ s.upstreamEntry.dp = s.dp ∧
      s.upstreamEntry.alc = s.alc ∧ s.upstreamEntry.mgp = s.mgp ∧ s.upstreamEntry.counters = s.counters ∧
      s.upstreamEntry.wires = s.wires ∧ s.upstreamEntry.pending = s.pending := by
  unfold State.upstreamEntry
  (repeat' split) <;> simp

@[simp] theorem State.drainCheck_frame :
    s.drainCheck.pins = s.pins ∧ s.drainCheck.rst = s.rst ∧ s.drainCheck.rmt = s.rmt ∧
      s.drainCheck.spl = s.spl ∧ s.drainCheck.emn = s.emn ∧ s.drainCheck.mge = s.mge ∧
      s.drainCheck.psc = s.psc ∧ s.drainCheck.prf = s.prf ∧ s.drainCheck.dp = s.dp ∧ s.drainCheck.alc = s.alc ∧
      s.drainCheck.mgp = s.mgp ∧ s.drainCheck.counters = s.counters ∧ s.drainCheck.wires = s.wires ∧
      s.drainCheck.pending = s.pending := by
  unfold State.drainCheck
  (repeat' split) <;> simp

@[simp] theorem State.downstreamEntry_frame :
    s.downstreamEntry.pins = s.pins ∧ s.downstreamEntry.rst = s.rst ∧ s.downstreamEntry.rmt = s.rmt ∧
      s.downstreamEntry.spl = s.spl ∧ s.downstreamEntry.emn = s.emn ∧ s.downstreamEntry.mge = s.mge ∧
      s.downstreamEntry.prf = s.prf ∧ s.downstreamEntry.up = s.up ∧ s.downstreamEntry.alc = s.alc ∧
      s.downstreamEntry.mgp = s.mgp ∧ s.downstreamEntry.counters = s.counters ∧
      s.downstreamEntry.wires = s.wires ∧ s.downstreamEntry.pending = s.pending := by
  unfold State.downstreamEntry
  (repeat' split) <;> simp

@[simp] theorem State.releasePulse_frame :
    s.releasePulse.pins = s.pins ∧ s.releasePulse.rst = s.rst ∧ s.releasePulse.rmt = s.rmt ∧
      s.releasePulse.spl = s.spl ∧ s.releasePulse.emn = s.emn ∧ s.releasePulse.mge = s.mge ∧
      s.releasePulse.prf = s.prf ∧ s.releasePulse.up = s.up ∧ s.releasePulse.alc = s.alc ∧
      s.releasePulse.mgp = s.mgp ∧ s.releasePulse.counters = s.counters ∧ s.releasePulse.wires = s.wires ∧
      s.releasePulse.pending = s.pending := by
  simp [State.releasePulse]

@[simp] theorem State.writeNotice_frame (r : HostRecord) :
    (s.writeNotice r).pins = s.pins ∧ (s.writeNotice r).rst = s.rst ∧ (s.writeNotice r).rmt = s.rmt ∧
      (s.writeNotice r).spl = s.spl ∧ (s.writeNotice r).emn = s.emn ∧ (s.writeNotice r).prf = s.prf ∧
      (s.writeNotice r).up = s.up ∧ (s.writeNotice r).dp = s.dp ∧ (s.writeNotice r).alc = s.alc ∧
      (s.writeNotice r).mgp = s.mgp ∧ (s.writeNotice r).counters = s.counters ∧
      (s.writeNotice r).wires = s.wires ∧ (s.writeNotice r).pending = s.pending := by
  unfold State.writeNotice
  (repeat' split) <;> simp

@[simp] theorem State.sendLegs_frame (tag : Fin 64) (r : HostRecord) (legs : List (Leg × Location)) :
    (legs.foldl (State.sendLeg tag r) s).pins = s.pins ∧ (legs.foldl (State.sendLeg tag r) s).rst = s.rst ∧
      (legs.foldl (State.sendLeg tag r) s).rmt = s.rmt ∧ (legs.foldl (State.sendLeg tag r) s).spl = s.spl ∧
      (legs.foldl (State.sendLeg tag r) s).emn = s.emn ∧ (legs.foldl (State.sendLeg tag r) s).mge = s.mge ∧
      (legs.foldl (State.sendLeg tag r) s).psc = s.psc ∧ (legs.foldl (State.sendLeg tag r) s).prf = s.prf ∧
      (legs.foldl (State.sendLeg tag r) s).up = s.up ∧ (legs.foldl (State.sendLeg tag r) s).alc = s.alc ∧
      (legs.foldl (State.sendLeg tag r) s).mgp = s.mgp ∧
      (legs.foldl (State.sendLeg tag r) s).counters = s.counters ∧
      (legs.foldl (State.sendLeg tag r) s).pending = s.pending := by
  induction legs generalizing s with
  | nil => simp
  | cons l legs ih => simp [ih, State.sendLeg]

@[simp] theorem State.hostGrant_frame :
    s.hostGrant.pins = s.pins ∧ s.hostGrant.rst = s.rst ∧ s.hostGrant.rmt = s.rmt ∧ s.hostGrant.spl = s.spl ∧
      s.hostGrant.emn = s.emn ∧ s.hostGrant.prf = s.prf ∧ s.hostGrant.alc = s.alc ∧ s.hostGrant.mgp = s.mgp ∧
      s.hostGrant.counters = s.counters ∧ s.hostGrant.pending = s.pending := by
  unfold State.hostGrant
  (repeat' split) <;> simp

@[simp] theorem State.hostAnswer_frame (tag : Fin 64) (st : AnswerStatus) (d : List Byte) :
    (s.hostAnswer tag st d).pins = s.pins ∧ (s.hostAnswer tag st d).rst = s.rst ∧
      (s.hostAnswer tag st d).rmt = s.rmt ∧ (s.hostAnswer tag st d).spl = s.spl ∧
      (s.hostAnswer tag st d).emn = s.emn ∧ (s.hostAnswer tag st d).mge = s.mge ∧
      (s.hostAnswer tag st d).psc = s.psc ∧ (s.hostAnswer tag st d).prf = s.prf ∧
      (s.hostAnswer tag st d).dp = s.dp ∧ (s.hostAnswer tag st d).alc = s.alc ∧
      (s.hostAnswer tag st d).mgp = s.mgp ∧ (s.hostAnswer tag st d).counters = s.counters ∧
      (s.hostAnswer tag st d).pending = s.pending := by
  unfold State.hostAnswer
  split
  · simp
  · dsimp only
    split <;> simp

@[simp] theorem State.orphanAnswer_frame (tag : Fin 64) :
    (s.orphanAnswer tag).pins = s.pins ∧ (s.orphanAnswer tag).rst = s.rst ∧ (s.orphanAnswer tag).rmt = s.rmt ∧
      (s.orphanAnswer tag).spl = s.spl ∧ (s.orphanAnswer tag).emn = s.emn ∧ (s.orphanAnswer tag).mge = s.mge ∧
      (s.orphanAnswer tag).psc = s.psc ∧ (s.orphanAnswer tag).prf = s.prf ∧ (s.orphanAnswer tag).dp = s.dp ∧
      (s.orphanAnswer tag).alc = s.alc ∧ (s.orphanAnswer tag).mgp = s.mgp ∧
      (s.orphanAnswer tag).counters = s.counters ∧ (s.orphanAnswer tag).wires = s.wires ∧
      (s.orphanAnswer tag).pending = s.pending := by
  unfold State.orphanAnswer
  (repeat' split) <;> simp

@[simp] theorem State.failHost_frame :
    s.failHost.pins = s.pins ∧ s.failHost.rst = s.rst ∧ s.failHost.rmt = s.rmt ∧ s.failHost.spl = s.spl ∧
      s.failHost.emn = s.emn ∧ s.failHost.mge = s.mge ∧ s.failHost.psc = s.psc ∧ s.failHost.prf = s.prf ∧
      s.failHost.dp = s.dp ∧ s.failHost.alc = s.alc ∧ s.failHost.mgp = s.mgp ∧
      s.failHost.counters = s.counters ∧ s.failHost.pending = s.pending := by
  simp [State.failHost]

@[simp] theorem State.faultPort_frame (reason : FaultReason) :
    (s.faultPort reason).pins = s.pins ∧ (s.faultPort reason).rst = s.rst ∧ (s.faultPort reason).rmt = s.rmt ∧
      (s.faultPort reason).spl = s.spl ∧ (s.faultPort reason).emn = s.emn ∧ (s.faultPort reason).mge = s.mge ∧
      (s.faultPort reason).psc = s.psc ∧ (s.faultPort reason).prf = s.prf ∧ (s.faultPort reason).up = s.up ∧
      (s.faultPort reason).alc = s.alc ∧ (s.faultPort reason).mgp = s.mgp ∧
      (s.faultPort reason).counters = s.counters ∧ (s.faultPort reason).wires = s.wires ∧
      (s.faultPort reason).pending = s.pending :=
  ⟨rfl, rfl, rfl, rfl, rfl, rfl, rfl, rfl, rfl, rfl, rfl, rfl, rfl, rfl⟩

@[simp] theorem State.enterFault_frame (reason : FaultReason) :
    (s.enterFault reason).pins = s.pins ∧ (s.enterFault reason).rst = s.rst ∧
      (s.enterFault reason).prf = s.prf ∧ (s.enterFault reason).mgp = s.mgp ∧
      (s.enterFault reason).pending = s.pending := by
  simp [State.enterFault]

end Sys2Proof.Machine
end

