-- ==== Sys2Proof/Laws/Commands.lean ====
section
/-! SUPPORT. What each operation behind the commands leaves unchanged. -/

namespace Sys2Proof.Machine

variable (s : State)

@[simp] theorem State.sendBits_frame (bits : List Bool) :
    (s.sendBits bits).pins = s.pins ∧ (s.sendBits bits).rst = s.rst ∧ (s.sendBits bits).rmt = s.rmt ∧
      (s.sendBits bits).spl = s.spl ∧ (s.sendBits bits).emn = s.emn ∧ (s.sendBits bits).mge = s.mge ∧
      (s.sendBits bits).psc = s.psc ∧ (s.sendBits bits).prf = s.prf ∧ (s.sendBits bits).up = s.up ∧
      (s.sendBits bits).dp = s.dp ∧ (s.sendBits bits).alc = s.alc ∧ (s.sendBits bits).mgp = s.mgp ∧
      (s.sendBits bits).counters = s.counters ∧ (s.sendBits bits).pending = s.pending :=
  ⟨rfl, rfl, rfl, rfl, rfl, rfl, rfl, rfl, rfl, rfl, rfl, rfl, rfl, rfl⟩

@[simp] theorem State.endFrame_frame :
    s.endFrame.pins = s.pins ∧ s.endFrame.rst = s.rst ∧ s.endFrame.rmt = s.rmt ∧ s.endFrame.spl = s.spl ∧
      s.endFrame.emn = s.emn ∧ s.endFrame.mge = s.mge ∧ s.endFrame.psc = s.psc ∧ s.endFrame.prf = s.prf ∧
      s.endFrame.up = s.up ∧ s.endFrame.dp = s.dp ∧ s.endFrame.alc = s.alc ∧
      s.endFrame.counters = s.counters ∧ s.endFrame.wires = s.wires ∧ s.endFrame.pending = s.pending :=
  ⟨rfl, rfl, rfl, rfl, rfl, rfl, rfl, rfl, rfl, rfl, rfl, rfl, rfl, rfl⟩

@[simp] theorem State.beginFrame_frame :
    s.beginFrame.pins = s.pins ∧ s.beginFrame.rst = s.rst ∧ s.beginFrame.rmt = s.rmt ∧
      s.beginFrame.spl = s.spl ∧ s.beginFrame.emn = s.emn ∧ s.beginFrame.mge = s.mge ∧
      s.beginFrame.psc = s.psc ∧ s.beginFrame.prf = s.prf ∧ s.beginFrame.up = s.up ∧
      s.beginFrame.dp = s.dp ∧ s.beginFrame.alc = s.alc ∧ s.beginFrame.counters = s.counters ∧
      s.beginFrame.wires = s.wires ∧ s.beginFrame.pending = s.pending := by
  unfold State.beginFrame
  (repeat' split) <;> simp

@[simp] theorem State.endCommandFrame_frame (sent : List Byte) :
    (s.endCommandFrame sent).pins = s.pins ∧ (s.endCommandFrame sent).rst = s.rst ∧
      (s.endCommandFrame sent).rmt = s.rmt ∧ (s.endCommandFrame sent).spl = s.spl ∧
      (s.endCommandFrame sent).emn = s.emn ∧ (s.endCommandFrame sent).mge = s.mge ∧
      (s.endCommandFrame sent).psc = s.psc ∧ (s.endCommandFrame sent).prf = s.prf ∧
      (s.endCommandFrame sent).up = s.up ∧ (s.endCommandFrame sent).dp = s.dp ∧
      (s.endCommandFrame sent).alc = s.alc ∧ (s.endCommandFrame sent).counters = s.counters ∧
      (s.endCommandFrame sent).pending = s.pending :=
  ⟨rfl, rfl, rfl, rfl, rfl, rfl, rfl, rfl, rfl, rfl, rfl, rfl, rfl⟩

@[simp] theorem State.answer_frame (code : Byte) (sent : List Byte) (r : Reply) :
    (s.answer code sent r).pins = s.pins ∧ (s.answer code sent r).rst = s.rst ∧
      (s.answer code sent r).rmt = s.rmt ∧ (s.answer code sent r).spl = s.spl ∧
      (s.answer code sent r).emn = s.emn ∧ (s.answer code sent r).mge = s.mge ∧
      (s.answer code sent r).psc = s.psc ∧ (s.answer code sent r).prf = s.prf ∧
      (s.answer code sent r).up = s.up ∧ (s.answer code sent r).dp = s.dp ∧
      (s.answer code sent r).alc = s.alc ∧ (s.answer code sent r).counters = s.counters ∧
      (s.answer code sent r).pending = s.pending :=
  ⟨rfl, rfl, rfl, rfl, rfl, rfl, rfl, rfl, rfl, rfl, rfl, rfl, rfl⟩

@[simp] theorem State.resetSlot_frame (i : Fin 128) :
    (s.resetSlot i).pins = s.pins ∧ (s.resetSlot i).rst = s.rst ∧ (s.resetSlot i).mge = s.mge ∧
      (s.resetSlot i).psc = s.psc ∧ (s.resetSlot i).prf = s.prf ∧ (s.resetSlot i).up = s.up ∧
      (s.resetSlot i).dp = s.dp ∧ (s.resetSlot i).alc = s.alc ∧ (s.resetSlot i).mgp = s.mgp ∧
      (s.resetSlot i).wires = s.wires ∧ (s.resetSlot i).pending = s.pending := by
  unfold State.resetSlot
  (repeat' split) <;> simp

@[simp] theorem State.resetEntries_frame :
    s.resetEntries.pins = s.pins ∧ s.resetEntries.rst = s.rst ∧ s.resetEntries.mge = s.mge ∧
      s.resetEntries.psc = s.psc ∧ s.resetEntries.prf = s.prf ∧ s.resetEntries.up = s.up ∧
      s.resetEntries.dp = s.dp ∧ s.resetEntries.alc = s.alc ∧ s.resetEntries.mgp = s.mgp ∧
      s.resetEntries.wires = s.wires ∧ s.resetEntries.pending = s.pending := by
  unfold State.resetEntries
  generalize List.finRange 128 = l
  induction l generalizing s with
  | nil => simp
  | cons i l ih => simp [ih]

@[simp] theorem State.endReset_frame :
    s.endReset.pins = s.pins ∧ s.endReset.rmt = s.rmt ∧ s.endReset.spl = s.spl ∧ s.endReset.emn = s.emn ∧
      s.endReset.mge = s.mge ∧ s.endReset.prf = s.prf ∧ s.endReset.alc = s.alc ∧ s.endReset.mgp = s.mgp ∧
      s.endReset.counters = s.counters ∧ s.endReset.wires = s.wires ∧ s.endReset.pending = s.pending := by
  unfold State.endReset
  dsimp only
  (repeat' split) <;> simp

@[simp] theorem State.releaseReset_frame :
    s.releaseReset.pins = s.pins ∧ s.releaseReset.rmt = s.rmt ∧ s.releaseReset.spl = s.spl ∧
      s.releaseReset.emn = s.emn ∧ s.releaseReset.mge = s.mge ∧ s.releaseReset.prf = s.prf ∧
      s.releaseReset.alc = s.alc ∧ s.releaseReset.mgp = s.mgp ∧ s.releaseReset.counters = s.counters ∧
      s.releaseReset.wires = s.wires ∧ s.releaseReset.pending = s.pending := by
  unfold State.releaseReset
  (repeat' split) <;> simp

@[simp] theorem State.rstRise_frame (rise : Bool) :
    (s.rstRise rise).rst = s.rst ∧ (s.rstRise rise).rmt = s.rmt ∧ (s.rstRise rise).spl = s.spl ∧
      (s.rstRise rise).emn = s.emn ∧ (s.rstRise rise).mge = s.mge ∧ (s.rstRise rise).psc = s.psc ∧
      (s.rstRise rise).prf = s.prf ∧ (s.rstRise rise).up = s.up ∧ (s.rstRise rise).dp = s.dp ∧
      (s.rstRise rise).alc = s.alc ∧ (s.rstRise rise).mgp = s.mgp ∧
      (s.rstRise rise).counters = s.counters ∧ (s.rstRise rise).wires = s.wires ∧
      (s.rstRise rise).pending = s.pending := by
  unfold State.rstRise
  (repeat' split) <;> simp

@[simp] theorem State.protocolError_frame (e : ProtocolError) :
    (s.protocolError e).pins = s.pins ∧ (s.protocolError e).rst = s.rst ∧ (s.protocolError e).rmt = s.rmt ∧
      (s.protocolError e).spl = s.spl ∧ (s.protocolError e).emn = s.emn ∧ (s.protocolError e).mge = s.mge ∧
      (s.protocolError e).psc = s.psc ∧ (s.protocolError e).prf = s.prf ∧ (s.protocolError e).dp = s.dp ∧
      (s.protocolError e).mgp = s.mgp ∧ (s.protocolError e).wires = s.wires ∧
      (s.protocolError e).pending = s.pending :=
  ⟨rfl, rfl, rfl, rfl, rfl, rfl, rfl, rfl, rfl, rfl, rfl, rfl⟩

@[simp] theorem State.answerNow_frame (tag : Fin 64) (st : HostStatus) :
    (s.answerNow tag st).pins = s.pins ∧ (s.answerNow tag st).rst = s.rst ∧ (s.answerNow tag st).rmt = s.rmt ∧
      (s.answerNow tag st).spl = s.spl ∧ (s.answerNow tag st).emn = s.emn ∧ (s.answerNow tag st).mge = s.mge ∧
      (s.answerNow tag st).psc = s.psc ∧ (s.answerNow tag st).prf = s.prf ∧ (s.answerNow tag st).dp = s.dp ∧
      (s.answerNow tag st).alc = s.alc ∧ (s.answerNow tag st).mgp = s.mgp ∧
      (s.answerNow tag st).counters = s.counters ∧ (s.answerNow tag st).pending = s.pending :=
  ⟨rfl, rfl, rfl, rfl, rfl, rfl, rfl, rfl, rfl, rfl, rfl, rfl, rfl⟩

@[simp] theorem State.forwardRequest_frame (tag : Fin 64) (r : HostRecord) :
    (s.forwardRequest tag r).pins = s.pins ∧ (s.forwardRequest tag r).rst = s.rst ∧
      (s.forwardRequest tag r).rmt = s.rmt ∧ (s.forwardRequest tag r).spl = s.spl ∧
      (s.forwardRequest tag r).emn = s.emn ∧ (s.forwardRequest tag r).mge = s.mge ∧
      (s.forwardRequest tag r).psc = s.psc ∧ (s.forwardRequest tag r).prf = s.prf ∧
      (s.forwardRequest tag r).dp = s.dp ∧ (s.forwardRequest tag r).alc = s.alc ∧
      (s.forwardRequest tag r).mgp = s.mgp ∧ (s.forwardRequest tag r).counters = s.counters ∧
      (s.forwardRequest tag r).wires = s.wires ∧ (s.forwardRequest tag r).pending = s.pending :=
  ⟨rfl, rfl, rfl, rfl, rfl, rfl, rfl, rfl, rfl, rfl, rfl, rfl, rfl, rfl⟩

@[simp] theorem State.accept_frame (tag : Fin 64) (kind : ReqKind) (msg : List Byte) :
    (s.accept tag kind msg).pins = s.pins ∧ (s.accept tag kind msg).rst = s.rst ∧
      (s.accept tag kind msg).rmt = s.rmt ∧ (s.accept tag kind msg).spl = s.spl ∧
      (s.accept tag kind msg).emn = s.emn ∧ (s.accept tag kind msg).mge = s.mge ∧
      (s.accept tag kind msg).psc = s.psc ∧ (s.accept tag kind msg).prf = s.prf ∧
      (s.accept tag kind msg).dp = s.dp ∧ (s.accept tag kind msg).alc = s.alc ∧
      (s.accept tag kind msg).mgp = s.mgp ∧ (s.accept tag kind msg).counters = s.counters ∧
      (s.accept tag kind msg).pending = s.pending := by
  unfold State.accept
  (repeat' split) <;> simp

@[simp] theorem State.receive_frame (msg : List Byte) :
    (s.receive msg).pins = s.pins ∧ (s.receive msg).rst = s.rst ∧ (s.receive msg).rmt = s.rmt ∧
      (s.receive msg).spl = s.spl ∧ (s.receive msg).emn = s.emn ∧ (s.receive msg).mge = s.mge ∧
      (s.receive msg).psc = s.psc ∧ (s.receive msg).prf = s.prf ∧ (s.receive msg).dp = s.dp ∧
      (s.receive msg).mgp = s.mgp ∧ (s.receive msg).pending = s.pending := by
  unfold State.receive
  (repeat' split) <;> simp

@[simp] theorem State.copyReadIssue_frame (c : MigContext) :
    (s.copyReadIssue c).pins = s.pins ∧ (s.copyReadIssue c).rst = s.rst ∧ (s.copyReadIssue c).rmt = s.rmt ∧
      (s.copyReadIssue c).spl = s.spl ∧ (s.copyReadIssue c).emn = s.emn ∧ (s.copyReadIssue c).psc = s.psc ∧
      (s.copyReadIssue c).prf = s.prf ∧ (s.copyReadIssue c).up = s.up ∧ (s.copyReadIssue c).alc = s.alc ∧
      (s.copyReadIssue c).mgp = s.mgp ∧ (s.copyReadIssue c).counters = s.counters ∧
      (s.copyReadIssue c).pending = s.pending := by
  simp [State.copyReadIssue]

@[simp] theorem State.copyWriteIssue_frame (c : MigContext) :
    (s.copyWriteIssue c).pins = s.pins ∧ (s.copyWriteIssue c).rst = s.rst ∧ (s.copyWriteIssue c).rmt = s.rmt ∧
      (s.copyWriteIssue c).spl = s.spl ∧ (s.copyWriteIssue c).emn = s.emn ∧ (s.copyWriteIssue c).psc = s.psc ∧
      (s.copyWriteIssue c).prf = s.prf ∧ (s.copyWriteIssue c).up = s.up ∧ (s.copyWriteIssue c).alc = s.alc ∧
      (s.copyWriteIssue c).mgp = s.mgp ∧ (s.copyWriteIssue c).counters = s.counters ∧
      (s.copyWriteIssue c).pending = s.pending := by
  simp [State.copyWriteIssue]

@[simp] theorem State.migrationGrant_frame :
    s.migrationGrant.pins = s.pins ∧ s.migrationGrant.rst = s.rst ∧ s.migrationGrant.psc = s.psc ∧
      s.migrationGrant.prf = s.prf ∧ s.migrationGrant.up = s.up ∧ s.migrationGrant.mgp = s.mgp ∧
      s.migrationGrant.pending = s.pending := by
  unfold State.migrationGrant
  (repeat' split) <;> simp

@[simp] theorem State.scrubReadGrant_frame (l : ScrubLine) :
    (s.scrubReadGrant l).pins = s.pins ∧ (s.scrubReadGrant l).rst = s.rst ∧ (s.scrubReadGrant l).rmt = s.rmt ∧
      (s.scrubReadGrant l).spl = s.spl ∧ (s.scrubReadGrant l).emn = s.emn ∧ (s.scrubReadGrant l).mge = s.mge ∧
      (s.scrubReadGrant l).prf = s.prf ∧ (s.scrubReadGrant l).up = s.up ∧ (s.scrubReadGrant l).mgp = s.mgp ∧
      (s.scrubReadGrant l).pending = s.pending := by
  unfold State.scrubReadGrant
  dsimp only
  (repeat' split) <;> simp

@[simp] theorem State.scrubWritebackGrant_frame (l : ScrubLine) :
    (s.scrubWritebackGrant l).pins = s.pins ∧ (s.scrubWritebackGrant l).rst = s.rst ∧
      (s.scrubWritebackGrant l).rmt = s.rmt ∧ (s.scrubWritebackGrant l).spl = s.spl ∧
      (s.scrubWritebackGrant l).emn = s.emn ∧ (s.scrubWritebackGrant l).mge = s.mge ∧
      (s.scrubWritebackGrant l).prf = s.prf ∧ (s.scrubWritebackGrant l).up = s.up ∧
      (s.scrubWritebackGrant l).mgp = s.mgp ∧ (s.scrubWritebackGrant l).pending = s.pending := by
  unfold State.scrubWritebackGrant
  dsimp only
  (repeat' split) <;> simp

@[simp] theorem State.scrubGrant_frame :
    s.scrubGrant.pins = s.pins ∧ s.scrubGrant.rst = s.rst ∧ s.scrubGrant.rmt = s.rmt ∧
      s.scrubGrant.spl = s.spl ∧ s.scrubGrant.emn = s.emn ∧ s.scrubGrant.mge = s.mge ∧
      s.scrubGrant.prf = s.prf ∧ s.scrubGrant.up = s.up ∧ s.scrubGrant.mgp = s.mgp ∧
      s.scrubGrant.pending = s.pending := by
  unfold State.scrubGrant
  (repeat' split) <;> simp

@[simp] theorem State.copyReadAnswer_frame (c : MigContext) (e : FifoEntry) (st : AnswerStatus) (d : List Byte) :
    (s.copyReadAnswer c e st d).pins = s.pins ∧ (s.copyReadAnswer c e st d).rst = s.rst ∧
      (s.copyReadAnswer c e st d).psc = s.psc ∧ (s.copyReadAnswer c e st d).prf = s.prf ∧
      (s.copyReadAnswer c e st d).up = s.up ∧ (s.copyReadAnswer c e st d).mgp = s.mgp ∧
      (s.copyReadAnswer c e st d).wires = s.wires ∧ (s.copyReadAnswer c e st d).pending = s.pending := by
  unfold State.copyReadAnswer
  (repeat' split) <;> simp

@[simp] theorem State.copyAnswer_frame (e : FifoEntry) (st : AnswerStatus) (d : List Byte) :
    (s.copyAnswer e st d).pins = s.pins ∧ (s.copyAnswer e st d).rst = s.rst ∧
      (s.copyAnswer e st d).psc = s.psc ∧ (s.copyAnswer e st d).prf = s.prf ∧ (s.copyAnswer e st d).up = s.up ∧
      (s.copyAnswer e st d).mgp = s.mgp ∧ (s.copyAnswer e st d).wires = s.wires ∧
      (s.copyAnswer e st d).pending = s.pending := by
  unfold State.copyAnswer
  (repeat' split) <;> simp

@[simp] theorem State.scrubReadAnswer_frame (l : ScrubLine) (st : AnswerStatus) (d : List Byte) :
    (s.scrubReadAnswer l st d).pins = s.pins ∧ (s.scrubReadAnswer l st d).rst = s.rst ∧
      (s.scrubReadAnswer l st d).rmt = s.rmt ∧ (s.scrubReadAnswer l st d).spl = s.spl ∧
      (s.scrubReadAnswer l st d).emn = s.emn ∧ (s.scrubReadAnswer l st d).mge = s.mge ∧
      (s.scrubReadAnswer l st d).prf = s.prf ∧ (s.scrubReadAnswer l st d).up = s.up ∧
      (s.scrubReadAnswer l st d).dp = s.dp ∧ (s.scrubReadAnswer l st d).mgp = s.mgp ∧
      (s.scrubReadAnswer l st d).wires = s.wires ∧ (s.scrubReadAnswer l st d).pending = s.pending := by
  unfold State.scrubReadAnswer
  (repeat' split) <;> simp

@[simp] theorem State.scrubAnswer_frame (e : FifoEntry) (st : AnswerStatus) (d : List Byte) :
    (s.scrubAnswer e st d).pins = s.pins ∧ (s.scrubAnswer e st d).rst = s.rst ∧
      (s.scrubAnswer e st d).rmt = s.rmt ∧ (s.scrubAnswer e st d).spl = s.spl ∧
      (s.scrubAnswer e st d).prf = s.prf ∧ (s.scrubAnswer e st d).up = s.up ∧
      (s.scrubAnswer e st d).dp = s.dp ∧ (s.scrubAnswer e st d).mgp = s.mgp ∧
      (s.scrubAnswer e st d).wires = s.wires ∧ (s.scrubAnswer e st d).pending = s.pending := by
  unfold State.scrubAnswer
  dsimp only
  (repeat' split) <;> simp

@[simp] theorem State.deliver_frame (e : FifoEntry) (st : AnswerStatus) (d : List Byte) :
    (s.deliver e st d).pins = s.pins ∧ (s.deliver e st d).rst = s.rst ∧ (s.deliver e st d).prf = s.prf ∧
      (s.deliver e st d).mgp = s.mgp ∧ (s.deliver e st d).pending = s.pending := by
  unfold State.deliver
  (repeat' split) <;> simp

@[simp] theorem State.takeAnswer_frame (msg : List Byte) :
    (s.takeAnswer msg).pins = s.pins ∧ (s.takeAnswer msg).rst = s.rst ∧ (s.takeAnswer msg).prf = s.prf ∧
      (s.takeAnswer msg).mgp = s.mgp ∧ (s.takeAnswer msg).pending = s.pending := by
  unfold State.takeAnswer
  (repeat' split) <;> simp

@[simp] theorem State.startFailure_frame (q : RepairRequest) (o : MigOutcome) :
    (s.startFailure q o).pins = s.pins ∧ (s.startFailure q o).rst = s.rst ∧ (s.startFailure q o).rmt = s.rmt ∧
      (s.startFailure q o).spl = s.spl ∧ (s.startFailure q o).psc = s.psc ∧ (s.startFailure q o).prf = s.prf ∧
      (s.startFailure q o).up = s.up ∧ (s.startFailure q o).dp = s.dp ∧ (s.startFailure q o).mgp = s.mgp ∧
      (s.startFailure q o).counters = s.counters ∧ (s.startFailure q o).wires = s.wires ∧
      (s.startFailure q o).pending = s.pending :=
  ⟨rfl, rfl, rfl, rfl, rfl, rfl, rfl, rfl, rfl, rfl, rfl, rfl⟩

@[simp] theorem State.beginMigration_frame (q : RepairRequest) (i : Fin 128) (cur : Option (Fin 16)) (nx : Fin 16) :
    (s.beginMigration q i cur nx).pins = s.pins ∧ (s.beginMigration q i cur nx).rst = s.rst ∧
      (s.beginMigration q i cur nx).emn = s.emn ∧ (s.beginMigration q i cur nx).psc = s.psc ∧
      (s.beginMigration q i cur nx).prf = s.prf ∧ (s.beginMigration q i cur nx).up = s.up ∧
      (s.beginMigration q i cur nx).dp = s.dp ∧ (s.beginMigration q i cur nx).mgp = s.mgp ∧
      (s.beginMigration q i cur nx).counters = s.counters ∧ (s.beginMigration q i cur nx).wires = s.wires ∧
      (s.beginMigration q i cur nx).pending = s.pending := by
  simp [State.beginMigration]

@[simp] theorem State.startInSlot_frame (q : RepairRequest) (i : Fin 128) (cur : Option (Fin 16)) :
    (s.startInSlot q i cur).pins = s.pins ∧ (s.startInSlot q i cur).rst = s.rst ∧
      (s.startInSlot q i cur).psc = s.psc ∧ (s.startInSlot q i cur).prf = s.prf ∧
      (s.startInSlot q i cur).up = s.up ∧ (s.startInSlot q i cur).dp = s.dp ∧
      (s.startInSlot q i cur).mgp = s.mgp ∧ (s.startInSlot q i cur).counters = s.counters ∧
      (s.startInSlot q i cur).wires = s.wires ∧ (s.startInSlot q i cur).pending = s.pending := by
  unfold State.startInSlot
  (repeat' split) <;> simp

@[simp] theorem State.writeField_frame (f : ProfileField) (n : Nat) :
    (s.writeField f n).pins = s.pins ∧ (s.writeField f n).rst = s.rst ∧ (s.writeField f n).rmt = s.rmt ∧
      (s.writeField f n).spl = s.spl ∧ (s.writeField f n).mge = s.mge ∧ (s.writeField f n).psc = s.psc ∧
      (s.writeField f n).up = s.up ∧ (s.writeField f n).dp = s.dp ∧ (s.writeField f n).alc = s.alc ∧
      (s.writeField f n).mgp = s.mgp ∧ (s.writeField f n).counters = s.counters ∧
      (s.writeField f n).wires = s.wires ∧ (s.writeField f n).pending = s.pending := by
  simp [State.writeField]

@[simp] theorem State.writeOpsel_frame (i : Fin 2) :
    (s.writeOpsel i).pins = s.pins ∧ (s.writeOpsel i).rst = s.rst ∧ (s.writeOpsel i).rmt = s.rmt ∧
      (s.writeOpsel i).spl = s.spl ∧ (s.writeOpsel i).mge = s.mge ∧ (s.writeOpsel i).psc = s.psc ∧
      (s.writeOpsel i).up = s.up ∧ (s.writeOpsel i).dp = s.dp ∧ (s.writeOpsel i).alc = s.alc ∧
      (s.writeOpsel i).mgp = s.mgp ∧ (s.writeOpsel i).counters = s.counters ∧
      (s.writeOpsel i).wires = s.wires ∧ (s.writeOpsel i).pending = s.pending := by
  simp [State.writeOpsel]

@[simp] theorem State.writeWrsel_frame (i : Fin 2) :
    (s.writeWrsel i).pins = s.pins ∧ (s.writeWrsel i).rst = s.rst ∧ (s.writeWrsel i).rmt = s.rmt ∧
      (s.writeWrsel i).spl = s.spl ∧ (s.writeWrsel i).emn = s.emn ∧ (s.writeWrsel i).mge = s.mge ∧
      (s.writeWrsel i).psc = s.psc ∧ (s.writeWrsel i).up = s.up ∧ (s.writeWrsel i).dp = s.dp ∧
      (s.writeWrsel i).alc = s.alc ∧ (s.writeWrsel i).mgp = s.mgp ∧ (s.writeWrsel i).counters = s.counters ∧
      (s.writeWrsel i).wires = s.wires ∧ (s.writeWrsel i).pending = s.pending :=
  ⟨rfl, rfl, rfl, rfl, rfl, rfl, rfl, rfl, rfl, rfl, rfl, rfl, rfl, rfl⟩

@[simp] theorem State.writeEnable_frame (e : BitVec 6) :
    (s.writeEnable e).pins = s.pins ∧ (s.writeEnable e).rst = s.rst ∧ (s.writeEnable e).rmt = s.rmt ∧
      (s.writeEnable e).spl = s.spl ∧ (s.writeEnable e).emn = s.emn ∧ (s.writeEnable e).mge = s.mge ∧
      (s.writeEnable e).psc = s.psc ∧ (s.writeEnable e).prf = s.prf ∧ (s.writeEnable e).up = s.up ∧
      (s.writeEnable e).dp = s.dp ∧ (s.writeEnable e).mgp = s.mgp ∧ (s.writeEnable e).counters = s.counters ∧
      (s.writeEnable e).wires = s.wires ∧ (s.writeEnable e).pending = s.pending :=
  ⟨rfl, rfl, rfl, rfl, rfl, rfl, rfl, rfl, rfl, rfl, rfl, rfl, rfl, rfl⟩

@[simp] theorem State.writeTimeout_frame (n : Nat) :
    (s.writeTimeout n).pins = s.pins ∧ (s.writeTimeout n).rst = s.rst ∧ (s.writeTimeout n).rmt = s.rmt ∧
      (s.writeTimeout n).spl = s.spl ∧ (s.writeTimeout n).emn = s.emn ∧ (s.writeTimeout n).mge = s.mge ∧
      (s.writeTimeout n).psc = s.psc ∧ (s.writeTimeout n).prf = s.prf ∧ (s.writeTimeout n).up = s.up ∧
      (s.writeTimeout n).alc = s.alc ∧ (s.writeTimeout n).mgp = s.mgp ∧
      (s.writeTimeout n).counters = s.counters ∧ (s.writeTimeout n).wires = s.wires ∧
      (s.writeTimeout n).pending = s.pending :=
  ⟨rfl, rfl, rfl, rfl, rfl, rfl, rfl, rfl, rfl, rfl, rfl, rfl, rfl, rfl⟩

@[simp] theorem State.frameError_frame (bits : List Bool) :
    (s.frameError bits).pins = s.pins ∧ (s.frameError bits).rst = s.rst ∧
      (s.frameError bits).rmt = s.rmt ∧ (s.frameError bits).spl = s.spl ∧
      (s.frameError bits).emn = s.emn ∧ (s.frameError bits).mge = s.mge ∧
      (s.frameError bits).psc = s.psc ∧ (s.frameError bits).prf = s.prf ∧ (s.frameError bits).up = s.up ∧
      (s.frameError bits).dp = s.dp ∧ (s.frameError bits).alc = s.alc ∧
      (s.frameError bits).pending = s.pending :=
  ⟨rfl, rfl, rfl, rfl, rfl, rfl, rfl, rfl, rfl, rfl, rfl, rfl⟩

@[simp] theorem State.capture_frame :
    s.capture.pins = s.pins ∧ s.capture.rst = s.rst ∧ s.capture.rmt = s.rmt ∧ s.capture.spl = s.spl ∧
      s.capture.emn = s.emn ∧ s.capture.mge = s.mge ∧ s.capture.psc = s.psc ∧ s.capture.prf = s.prf ∧
      s.capture.up = s.up ∧ s.capture.dp = s.dp ∧ s.capture.mgp = s.mgp ∧ s.capture.counters = s.counters ∧
      s.capture.wires = s.wires ∧ s.capture.pending = s.pending := by
  unfold State.capture
  (repeat' split) <;> simp

@[simp] theorem State.advance_frame :
    s.advance.pins = s.pins ∧ s.advance.rmt = s.rmt ∧ s.advance.spl = s.spl ∧ s.advance.mge = s.mge ∧
      s.advance.prf = s.prf ∧ s.advance.up = s.up ∧ s.advance.alc = s.alc ∧ s.advance.mgp = s.mgp ∧
      s.advance.counters = s.counters ∧ s.advance.wires = s.wires ∧ s.advance.pending = s.pending := by
  unfold State.advance
  (repeat' split) <;> simp

end Sys2Proof.Machine
end

