-- ==== Sys2Proof/Laws/Effects.lean ====
section
/-! SUPPORT. What the shared operations and the lookups answer. -/

namespace Sys2Proof.Machine

variable (s : State)

/-! ### Counters and causes -/

theorem Counter.index_injective {k k' : Counter} (h : k.index = k'.index) : k = k' := by
  cases k <;> cases k' <;> first | rfl | (exact absurd h (by decide))

/-- A bump changes its own counter alone. -/
theorem State.counter_bump (k k' : Counter) :
    (s.bump k).counter k' = if k' = k then satInc (s.counter k) else s.counter k' := by
  by_cases h : k' = k
  · subst h; simp [State.counter, State.bump]
  · have h' : ¬((k.index : Nat) = k'.index) := fun e => h (Counter.index_injective (Fin.ext e.symm))
    simp [State.counter, State.bump, h, h']

theorem satInc_toNat_le (x : BitVec 32) : x.toNat ≤ (satInc x).toNat := by
  unfold satInc
  split
  · exact Nat.le_refl _
  · next h =>
    have : x ≠ 4294967295#32 := h
    bv_omega

/-- A raise makes its cause pending and no other, DATA_LOSS apart, which follows the loss list. -/
theorem State.isPending_raise (c c' : Cause) (h : c ≠ .dataLoss) :
    (s.raise c).isPending c' = (s.isPending c' || c' == c) := by
  cases c <;> cases c' <;> simp_all [State.isPending, State.raise, AlertController.put]

@[simp] theorem State.raise_enable (c : Cause) :
    (s.raise c).alc.enable = s.alc.enable ∧ (s.raise c).alc.capture = s.alc.capture := by
  cases c <;> exact ⟨rfl, rfl⟩

/-! ### Spares, slots and records -/

/-- A write of one spare changes that spare alone. -/
theorem State.spare_putSpare (b i b' i' : Fin 16) (x : SpareState) :
    (s.putSpare b i x).spare b' i' = if b' = b ∧ i' = i then x else s.spare b' i' := by
  simp only [State.spare, State.putSpare, State.setSpl]
  by_cases hb : b' = b
  · subst hb
    by_cases hi : i' = i
    · subst hi; simp
    · have : ¬((i : Nat) = i') := fun e => hi (Fin.ext e.symm)
      simp [hi, this]
  · have : ¬((b : Nat) = b') := fun e => hb (Fin.ext e.symm)
    simp [hb, this]

/-- A write of one slot changes that slot alone. -/
theorem State.rmt_putSlot (i j : Fin 128) (e : Option RemapEntry) :
    (s.putSlot i e).rmt[j] = if j = i then e else s.rmt[j] := by
  by_cases h : j = i
  · subst h; simp [State.putSlot]
  · have : ¬((i : Nat) = j) := fun e => h (Fin.ext e.symm)
    simp [State.putSlot, h, this]

/-- A write of one record changes that record alone. -/
theorem State.record_putRecord (tag tag' : Fin 64) (r : Option HostRecord) :
    (s.putRecord tag r).record tag' = if tag' = tag then r else s.record tag' := by
  by_cases h : tag' = tag
  · subst h; simp [State.record, State.putRecord]
  · have : ¬((tag : Nat) = tag') := fun e => h (Fin.ext e.symm)
    simp [State.record, State.putRecord, h, this]

/-! ### Lookups -/

/-- The lookup of R9 finds an entry with the home row asked for. -/
theorem State.slotOf_some {s : State} {h : HomeRow} {i : Fin 128} (e : s.slotOf h = some i) :
    ∃ x, s.rmt[i] = some x ∧ x.home = h := by
  have := List.find?_some e
  revert this
  cases hx : s.rmt[i] <;> simp_all

/-- The lookup of R9 finds none exactly where no entry has the home row. -/
theorem State.slotOf_none {s : State} {h : HomeRow} :
    s.slotOf h = none ↔ ∀ (i : Fin 128) (e : RemapEntry), s.rmt[i] = some e → e.home ≠ h := by
  simp only [State.slotOf, List.find?_eq_none]
  constructor
  · intro k i e he hh
    exact k i (List.mem_finRange i) (by simp [he, hh])
  · intro k i _
    cases hx : s.rmt[i] with
    | none => simp
    | some e => simpa using k i e hx

/-- A `find?` over all indices answers the first that passes. -/
theorem find_finRange_some {n : Nat} {p : Fin n → Bool} {i : Fin n}
    (h : (List.finRange n).find? p = some i) : p i = true ∧ ∀ j < i, p j = false := by
  refine ⟨List.find?_some h, fun j hj => ?_⟩
  obtain ⟨-, as, bs, e, hn⟩ := List.find?_eq_some_iff_append.mp h
  have hs : List.Pairwise (· < ·) (as ++ i :: bs) := e ▸ List.pairwise_lt_finRange n
  have hm : j ∈ as ++ i :: bs := e ▸ List.mem_finRange j
  rcases List.mem_append.mp hm with hm | hm
  · simpa using hn j hm
  · rcases List.mem_cons.mp hm with rfl | hm
    · exact absurd hj (lt_irrefl _)
    · have h1 := (List.pairwise_append.mp hs).2.1
      exact absurd (List.rel_of_pairwise_cons h1 hm) (not_lt.mpr hj.le)

/-- The first index that passes is what a `find?` over all indices answers. -/
theorem find_finRange_eq {n : Nat} {p : Fin n → Bool} {i : Fin n} (h : p i = true)
    (hf : ∀ j < i, p j = false) : (List.finRange n).find? p = some i := by
  cases e : (List.finRange n).find? p with
  | none => exact absurd h (by simpa using List.find?_eq_none.mp e i (List.mem_finRange i))
  | some k =>
    obtain ⟨hk, hl⟩ := find_finRange_some e
    rcases lt_trichotomy i k with hik | rfl | hki
    · exact absurd h (by simp [hl i hik])
    · rfl
    · exact absurd hk (by simp [hf k hki])

theorem State.lowestFree_eq {s : State} {b i : Fin 16} (h : s.spare b i = .free)
    (hf : ∀ j < i, s.spare b j ≠ .free) : s.lowestFree b = some i :=
  find_finRange_eq (by simp [h]) (fun j hj => by simp [hf j hj])

theorem State.emptySlot_eq {s : State} {i : Fin 128} (h : s.rmt[i] = none)
    (hf : ∀ j : Fin 128, j < i → s.rmt[j] ≠ none) : s.emptySlot = some i :=
  find_finRange_eq (by simp [h]) (fun j hj => by
    have := hf j hj
    cases hx : s.rmt[j] <;> simp_all)

/-- What R48 evicts: the unpinned record behind which every record is pinned. -/
theorem evictUnpinned_eq {front back : List SuspectRecord} {r : SuspectRecord} (hr : r.pinned = false)
    (hb : ∀ x ∈ back, x.pinned = true) : evictUnpinned (front ++ r :: back) = some (front ++ back) := by
  have h0 : ∀ l : List SuspectRecord, (∀ x ∈ l, x.pinned = true) → evictUnpinned l = none := by
    intro l
    induction l with
    | nil => intro _; rfl
    | cons a l ih =>
      intro h
      simp [evictUnpinned, ih fun x hx => h x (List.mem_cons_of_mem _ hx), h a (List.mem_cons_self ..)]
  induction front with
  | nil => simp [evictUnpinned, h0 back hb, hr]
  | cons a l ih => simp [evictUnpinned, ih]

theorem evictUnpinned_none {l : List SuspectRecord} (h : ∀ x ∈ l, x.pinned = true) :
    evictUnpinned l = none := by
  induction l with
  | nil => rfl
  | cons a l ih =>
    simp [evictUnpinned, ih fun x hx => h x (List.mem_cons_of_mem _ hx), h a (List.mem_cons_self ..)]

/-! ### Frames and results -/

/-- What an answer writes in the management port (R169, R170). -/
theorem State.answer_mgp (code : Byte) (sent : List Byte) (r : Reply) :
    (s.answer code sent r).mgp =
      { frame := .idle
        shift := sent.take 16
        buffer := .unread ⟨r, s.mgp.seq, code, s.mgp.buffer.isUnread⟩
        seq := s.mgp.seq + 1#8 } := rfl

/-- What a COMMAND frame shifted out (R165). -/
theorem State.answer_wires (code : Byte) (sent : List Byte) (r : Reply) :
    (s.answer code sent r).wires =
      { s.wires with mgTx := s.wires.mgTx ++ [List.replicate (8 * (sent.length + 1)) false] } := rfl

/-- The end of a frame where none was in progress changes nothing. -/
theorem State.endFrame_idle {s : State} (h : s.mgp.frame = .idle) : s.endFrame = s := by
  cases s with
  | mk pins rst rmt spl emn mge psc prf up dp alc mgp counters wires pending =>
    cases mgp
    simp_all [State.endFrame, State.setMgp]

/-- No frame is received while a reset is in force (R165). -/
theorem State.hears_inReset {s : State} (h : s.inReset = true) : s.hears = false := by
  simp [State.hears, h]

/-- A COMMAND frame with the right number of argument bytes (R167). -/
theorem State.runAction_body {s : State} {a : Action} {args : List Byte} (body : State → Reply × State)
    (hr : s.hears = true) (ha : args.length = a.argLength) :
    s.runAction a args body = (body s).2.answer a.code (a.code :: args) (body s).1 := by
  simp [State.runAction, hr, ha]

/-- A COMMAND frame with a wrong number of argument bytes (R167 check 2). -/
theorem State.runAction_badLength {s : State} {a : Action} {args : List Byte} (body : State → Reply × State)
    (hr : s.hears = true) (ha : args.length ≠ a.argLength) :
    s.runAction a args body = s.answer a.code (a.code :: args) .badLength := by
  simp [State.runAction, hr, ha]

/-- A COMMAND frame that is not received (R165, R175). -/
theorem State.runAction_unheard {s : State} {a : Action} {args : List Byte} (body : State → Reply × State)
    (hr : s.hears = false) : s.runAction a args body = s.endFrame := by
  simp [State.runAction, hr]

end Sys2Proof.Machine
end

