-- ==== Sys2Proof/Tests/Slice0.lean ====
section
/-! SUPPORT. Tests: what WellFormed refuses, one-step tests with results taken from the spec, and witnesses that meet the hypotheses of each statement. -/

namespace Sys2Proof.Tests

open Sys2Proof.Machine Sys2Proof.Claims

set_option Elab.async false

/-! ## WellFormed refuses -/

theorem test_wf_empty_request : (Instr.upstreamRequest []).wellFormed = false := by decide
theorem test_wf_empty_answer : (Instr.downstreamAnswer []).wellFormed = false := by decide
theorem test_wf_result_frame_without_type : (Instr.resultFrame 0).wellFormed = false := by decide
theorem test_wf_whole_command_frame_is_no_error :
    (Instr.mgmtFrameError (.rise (byteBits 90#8 ++ byteBits 12#8))).wellFormed = false := by decide
theorem test_wf_known_code : (Instr.unknownAction (some 29#8) []).wellFormed = false := by decide
theorem test_wf_missing_code_with_arguments : (Instr.unknownAction none [1#8]).wellFormed = false := by decide
theorem test_wf_item_with_own_row : (Instr.itemWrite [16#8, 0#8, 0#8, 0#8, 1#8]).wellFormed = false := by decide

/-! ## Helpers -/

/-- Whether the command answers a next state with this property. -/
def gives (c : Instr) (s : State) (p : State → Bool) : Bool :=
  match exec c s with
  | .next t => p t
  | _ => false

/-- The state after a command. -/
def after (c : Instr) (s : State) : State :=
  match exec c s with
  | .next t => t
  | _ => s

/-- Out of reset, both links UP, the gate OPEN, DP_REQ_READY high. -/
def live : State :=
  { State.reset with
    pins := { rstN := true, upRstN := true, dpReady := true, dpReqReady := true }
    rst := { force := .none, hold := none, last := .por, supplies := true }
    up := { UpstreamPort.powerOn with link := .up, credits := 64, gate := .opened }
    dp := { DownstreamPort.powerOn with link := .up, pulse := none } }

/-- As `live`, with the gate CLOSED. -/
def closed : State := { live with up := { live.up with gate := .closed } }

/-- Home row 5 of bank 1. -/
def home : HomeRow := ⟨1, 5⟩

/-- A suspect record of `home`. -/
def suspect : SuspectRecord := ⟨home, 3, 0, false, .host⟩

/-- An entry in slot 0 with its spares ASSIGNED. -/
def withEntry (s : State) (e : EntryState) : State :=
  let s₁ := s.putSlot 0 (some ⟨home, e⟩)
  let s₂ := match e.current with | some c => s₁.putSpare 1 c .assigned | none => s₁
  match e.next with | some n => s₂.putSpare 1 n .assigned | none => s₂

/-- The context of a re-migration of `home` from spare 2 to spare 0. -/
def context : MigContext :=
  { MigContext.begin 0 (spareLoc 1 2) 0 ⟨home, .autoCommit, .request⟩ with lineRetries := 1, totalRetries := 1 }

/-- `home` MOVING, with this context. -/
def moving (c : MigContext) : State := (withEntry live (.moving (some 2) 0)).putCtx (some c)

/-- Scrubbing, with this line in hand. -/
def scrubbing (m : ScrubMode) (l : Option ScrubLine) : State :=
  { live with psc := { state := .running m, cursor := 33546239, timer := some ⟨100, 100⟩, line := l } }

/-- The last line, awaiting its SCRUB_READ. -/
def lastLine : ScrubLine := ScrubLine.begin 33546239

/-- A host READ record of line 0 of `home` with this number of legs issued. -/
def readRecord (issued : Nat) : HostRecord :=
  { HostRecord.accepted .read home 0 [] with legsIssued := issued }

/-- A host READ on the forward queue at tag 3. -/
def waiting (s : State) : State :=
  (s.putRecord 3 (some (readRecord 0))).setUp
    { (s.putRecord 3 (some (readRecord 0))).up with credits := 63, forward := [3] }

/-- An entry of the issue FIFO. -/
def fifoEntry (o : Owner) (k : ReqKind) (orphan : Bool) : FifoEntry := ⟨o, k, home.loc, 0, home, orphan⟩

/-- One entry in the issue FIFO, its timer running. -/
def awaiting (s : State) (e : FifoEntry) : State :=
  s.setDp { s.dp with fifo := [e], timer := some ⟨2000, 7⟩ }

/-- A READ request of line 0 of `home` with tag 3: address 5 × 32768 + 1 × 2048. -/
def readMsg : List Byte := [67#8, 0#8, 0#8, 2#8, 136#8, 0#8]

/-- A WRITE request of the same line with this mask byte repeated. -/
def writeMsg (mask : Byte) : List Byte :=
  [131#8, 0#8, 0#8, 2#8, 136#8, 0#8] ++ List.replicate 8 mask ++ List.replicate 64 9#8

/-- An answer with data. -/
def dataAnswer (st : Byte) : List Byte := st :: List.replicate 64 7#8

/-! ## One-step tests -/

/-- Table 11-5 and R170: an EMPTY buffer shifts out the header of status NONE, all zero. -/
theorem test_result_frame_of_empty_buffer :
    gives (.resultFrame 6) live (fun t => t.wires.mgTx == [List.replicate 48 false]) = true := by decide +kernel

/-- R176: RESET_REPORT gives kind, part code 2216 as 08 A8, design step 1. -/
theorem test_reset_report :
    gives (.resetReport []) live (fun t => t.mgp.buffer == .unread ⟨.done [0#8, 8#8, 168#8, 1#8], 0#8, 28#8, false⟩)
      = true := by decide +kernel

/-- R167 check 2: an argument byte too many. -/
theorem test_bad_length :
    gives (.gateOpen [0#8]) live (fun t => t.mgp.buffer == .unread ⟨.badLength, 0#8, 20#8, false⟩) = true := by
  decide +kernel

/-- R130: GATE_OPEN of an OPEN gate is refused with STATE. -/
theorem test_gate_open_refused :
    gives (.gateOpen []) live (fun t => t.mgp.buffer == .unread ⟨.refused .state, 0#8, 20#8, false⟩) = true := by
  decide +kernel

/-- R23, Table 1-7: REMAP_LOAD takes slot 0 of an empty table and marks the bank changed. -/
theorem test_remap_load :
    gives (.remapLoad [1#8, 0#8, 5#8, 2#8]) closed
      (fun t => t.rmt[0] == some ⟨home, .active 2⟩ && t.spare 1 2 == .assigned && t.spl.changed[1]) = true := by
  decide +kernel

/-- R2: row 65520 is out of range. -/
theorem test_remap_find_range :
    gives (.remapFind [0#8, 255#8, 240#8]) live
      (fun t => t.mgp.buffer == .unread ⟨.refused .range, 0#8, 3#8, false⟩) = true := by decide +kernel

/-- R35: the counts of SPARE_RETIRE are those after the change. -/
theorem test_spare_retire :
    gives (.spareRetire [7#8, 0#8]) closed
      (fun t => t.mgp.buffer == .unread ⟨.done [7#8, 15#8, 0#8, 1#8], 0#8, 5#8, false⟩) = true := by decide +kernel

/-- R125, Table 7-3: a READ while the gate is CLOSED is answered REFUSED (4), tag 3. -/
theorem test_request_refused :
    gives (.upstreamRequest readMsg) closed (fun t => t.wires.upTx == [[3#8, 4#8]] && t.up.credits == 64) = true := by
  decide +kernel

/-- R126: a READ that passes is forwarded. -/
theorem test_request_forwarded :
    gives (.upstreamRequest readMsg) live (fun t => t.up.forward == [3] && t.up.credits == 63) = true := by
  decide +kernel

/-- R124: a kind that is none (top bits 3) is a BAD_KIND protocol error that consumes the credit. -/
theorem test_bad_kind :
    gives (.upstreamRequest [195#8]) live (fun t => t.up.lastError == .badKind && t.up.credits == 63 && t.alc.link)
      = true := by decide +kernel

/-- R12, Table 11-3: the grant of a host READ sends bank 1, row 5, line 0. -/
theorem test_grant_read :
    gives (.arbiterGrant true) (waiting live) (fun t => t.wires.dpTx == [[1#8, 0#8, 5#8, 0#8]]) = true := by
  decide +kernel

/-- R28, R11: with an ACTIVE entry the READ goes to spare 2, physical row 65522. -/
theorem test_grant_read_of_spare :
    gives (.arbiterGrant true) (waiting (withEntry live (.active 2)))
      (fun t => t.wires.dpTx == [[1#8, 255#8, 242#8, 0#8]]) = true := by decide +kernel

/-- R128, Table 7-5: a READ leg answered CE is answered CORRECTED (1) with its data, and HOST_CE counts it. -/
theorem test_read_corrected :
    gives (.downstreamAnswer (dataAnswer 1#8))
      (awaiting (live.putRecord 3 (some (readRecord 1))) (fifoEntry (.host 3 .source) .read false))
      (fun t => t.wires.upTx == [[3#8, 1#8] ++ List.replicate 64 7#8] && t.counter .hostCe == 1#32 &&
        t.emn.suspects == [⟨home, 1, 0, false, .host⟩]) = true := by decide +kernel

/-- R138, R148: an answer to an empty issue FIFO is a fault with reason BAD_ANSWER. -/
theorem test_bad_answer :
    gives (.downstreamAnswer [0#8]) live (fun t => t.dp.link == .fault && t.dp.lastFault == .badAnswer) = true := by
  decide +kernel

/-- R150: RECOVER takes a FAULT to RETRAIN with DP_RST_n low for 10 µs. -/
theorem test_recover :
    gives (.recover []) (after .dpReadyFall live) (fun t => t.dp.link == .retrain && t.dp.pulse == some ⟨10, 0⟩)
      = true := by decide +kernel

/-- R73, R30: a first migration takes the lowest FREE spare and the lowest empty slot. -/
theorem test_migration_start :
    gives .migrationStart (live.putQueue [⟨home, .hold, .request⟩])
      (fun t => t.rmt[0] == some ⟨home, .moving none 0⟩ && t.spare 1 0 == .assigned && t.mge.queue == []) = true := by
  decide +kernel

/-- R66, R72 check 1: the one stop of the model, in a state no run reaches. -/
theorem test_migration_start_fault :
    (match exec .migrationStart ((withEntry live (.held none 0)).putQueue [⟨home, .hold, .request⟩]) with
      | .fault f => f == .queuedRowInMigration
      | _ => false) = true := by decide +kernel

/-- R84, R34: COMMIT of a HELD re-migration retires the old spare and answers the ACTIVE entry. -/
theorem test_commit :
    gives (.commit [1#8, 0#8, 5#8]) (withEntry live (.held (some 2) 0))
      (fun t => t.spare 1 2 == .retired && t.counter .migrationsCommitted == 1#32 &&
        t.mgp.buffer == .unread ⟨.done [0#8, 1#8, 0#8, 5#8, 3#8, 0#8, 255#8], 0#8, 13#8, false⟩) = true := by
  decide +kernel

/-- R84, R21: DISCARD of a HELD first migration removes the entry. -/
theorem test_discard :
    gives (.discard [1#8, 0#8, 5#8]) (withEntry live (.held none 0))
      (fun t => t.rmt[0] == none && t.spare 1 0 == .free) = true := by decide +kernel

/-- R107: the end of the last line wraps the cursor, counts a pass and ends mode SINGLE. -/
theorem test_pass_wrap :
    gives (.downstreamAnswer (dataAnswer 0#8))
      (awaiting (scrubbing .single (some { lastLine with phase := .reading, recorded := some ⟨home.loc, false⟩ }))
        (fifoEntry .scrub .read false))
      (fun t => t.psc == { state := .idle, cursor := 0, timer := none, line := none } &&
        t.counter .scrubPasses == 1#32 && t.alc.scrubPass) = true := by decide +kernel

/-- R53: ce_count 3 becomes 1; a record left with no count is removed. -/
theorem test_decay :
    gives .decayExpiry
      ((live.putSuspects [suspect, ⟨⟨2, 0⟩, 1, 0, false, .host⟩]).setEmn
        { (live.putSuspects [suspect, ⟨⟨2, 0⟩, 1, 0, false, .host⟩]).emn with decay := some ⟨1000000, 1000000⟩ })
      (fun t => t.emn.suspects == [{ suspect with ceCount := 1 }]) = true := by decide +kernel

/-- R52: an expiry that waits behind a change of the operating decay_interval does not happen. -/
theorem test_decay_expiry_after_a_change :
    gives .decayExpiry
      (after (.profileFieldWrite .decayInterval 2#32)
        ((live.putSuspects [suspect]).setEmn
          { (live.putSuspects [suspect]).emn with decay := some ⟨1000000, 1000000⟩ }))
      (fun t => t.emn.suspects == [suspect] && t.emn.decay == some ⟨2000000, 0⟩) = true := by decide +kernel

/-- R141: DP_REQ_READY falls between two opportunities, and the next grant is not made. -/
theorem test_no_grant_after_a_fall :
    gives (.arbiterGrant true) (after (.dpReqReadyRise false) (waiting live))
      (fun t => t.wires.dpTx == [] && t.up.forward == [3] && !t.pins.dpReqReady) = true := by decide +kernel

/-- R172: an item that is read only (item 32). -/
theorem test_item_read_only :
    gives (.itemWrite [32#8, 0#8, 0#8, 0#8, 1#8]) live
      (fun t => t.mgp.buffer == .unread ⟨.refused .readOnly, 0#8, 26#8, false⟩) = true := by decide +kernel

/-- R171: the free spares of all banks (item 42), 256. -/
theorem test_item_free_spares :
    gives (.itemRead [42#8]) live
      (fun t => t.mgp.buffer == .unread ⟨.done [42#8, 0#8, 0#8, 1#8, 0#8], 0#8, 25#8, false⟩) = true := by
  decide +kernel

/-- R116, Table 6-1: ce_threshold 0 is out of range. -/
theorem test_profile_field_range :
    gives (.profileFieldWrite .ceThreshold 0#32) live
      (fun t => t.mgp.buffer == .unread ⟨.badArg, 0#8, 26#8, false⟩) = true := by decide +kernel

/-- R159: with LINK and SCRUB_PASS pending and both enabled, LINK is captured. -/
theorem test_alert_identify :
    gives (.alertIdentify []) ((live.raise .scrubPass).writeEnable 63#6 |>.raise .link)
      (fun t => t.alc.capture == some .link &&
        t.mgp.buffer == .unread ⟨.done [1#8, 33#8, 63#8], 0#8, 24#8, false⟩) = true := by decide +kernel

/-- R175, R119: a fall of RST_n keeps an ACTIVE entry and rolls back a HELD one. -/
theorem test_rst_n_fall :
    gives .rstNFall (withEntry live (.held (some 2) 0))
      (fun t => t.rmt[0] == some ⟨home, .active 2⟩ && t.spare 1 0 == .free && t.rst.last == .pin) = true := by
  decide +kernel

/-- R123, R136: at the end of the power-on reset the upstream link enters UP with 64 credits. -/
theorem test_power_on_reset_end :
    gives (.powerOnResetEnd false) State.reset (fun t => t.up.link == .up && t.up.credits == 64) = true := by decide +kernel

/-- R175: RST_n rising while the 10 µs of a DEVICE_RESET still run leaves the reset in force. -/
theorem test_rst_n_rise_within_hold :
    gives (.deviceResetEnd true) (after .rstNFall (after (.deviceReset []) live))
      (fun t => t.rst.force == .device && t.pins.rstN && t.up.link == .down) = true := by decide +kernel

/-- R175: the hold has passed, but RST_n is still low. -/
theorem test_rst_n_low_holds_the_reset :
    gives (.deviceResetEnd false) (after .rstNFall live) (fun t => t.rst.force == .device) = true := by
  decide +kernel

/-- R165: a COMMAND frame of two bytes shifts out sixteen zeros. -/
theorem test_command_frame_zeros :
    gives (.gateOpen []) live (fun t => t.wires.mgTx == [List.replicate 16 false]) = true := by decide +kernel

/-- R165: a frame whose MG_CS_n fell during a reset is not received, even where it ends after it. -/
theorem test_frame_begun_in_reset :
    gives (.gateDrain []) (after (.powerOnResetEnd false) (after (.mgmtFrameError .fall) State.reset))
      (fun t => t.mgp.buffer == .empty && t.mgp.frame == .idle && t.wires.mgTx == []) = true := by decide +kernel

/-- R175: a frame in progress when a reset starts is abandoned. -/
theorem test_reset_abandons_a_frame :
    gives .rstNFall (after (.mgmtFrameError .fall) live) (fun t => t.mgp.frame == .ignored) = true := by
  decide +kernel

/-- Table 3-2, R49, R51: a UE pins the row's record and, with auto_repair off, raises CANDIDATE. -/
theorem test_ue_pins_its_row :
    live.attributeHost home .ue =
      ((live.bump .hostUe).putSuspects [⟨home, 0, 1, true, .host⟩]).raise .candidate := by decide +kernel

/-- R99, R107: in mode SINGLE a skip of the last row, HELD, wraps the cursor and ends scrubbing. -/
theorem test_skip_of_the_last_row :
    gives .scrubIntervalExpiry ((scrubbing .single none).putSlot 0 (some ⟨rowOfLine 33546239, .held none 0⟩))
      (fun t => t.psc == { state := .idle, cursor := 0, timer := none, line := none } &&
        t.counter .skippedRows == 1#32 && t.counter .scrubPasses == 1#32 && t.alc.scrubPass) = true := by
  decide +kernel

/-! ## Witnesses of the statements' hypotheses -/

/-- A state with a migration in progress, a host READ waiting, a pinned suspect, a queued request, a RETIRED
spare and a captured cause, and a command waiting. -/
def busy : State :=
  let s := ((waiting (moving context)).putSpare 3 5 .retired).putSuspects [{ suspect with pinned := true }]
  let s := (s.putQueue [⟨⟨2, 0⟩, .hold, .auto⟩]).setAlc
    { s.alc with link := true, enable := 1#6, capture := some .link }
  { s with pending := [.arbiterGrant true] }

theorem test_witness_FrontCommandIsExecuted : busy.pending = .arbiterGrant true :: [] := rfl

theorem test_witness_EmptyQueueTicks : live.pending = [] := rfl

theorem test_witness_CommandsLeaveTheQueue : exec .drainEnd live = .next (after .drainEnd live) := rfl

theorem test_busy_steps : ∃ t, step busy = .next t := ⟨_, rfl⟩

theorem test_witness_ProfilesStayInRange : ProfilesInRange busy ∧ ∃ t, step busy = .next t :=
  ⟨fun i f => by revert i f; intro i; fin_cases i <;> intro f <;> cases f <;> decide +kernel, test_busy_steps⟩

theorem test_witness_ListsStayBounded : ListsBounded busy ∧ ∃ t, step busy = .next t :=
  ⟨by unfold ListsBounded SuspectRecord.inRange; decide +kernel, test_busy_steps⟩

theorem test_busy_repair : RepairCoherent busy := by
  unfold RepairCoherent HomesDistinct MovingMatchesContext QueueSettled
  decide +kernel

theorem test_witness_RepairStaysCoherent : RepairCoherent busy ∧ ∃ t, step busy = .next t :=
  ⟨test_busy_repair, test_busy_steps⟩

theorem test_busy_entry : busy.rmt[(0 : Fin 128)] = some ⟨home, .moving (some 2) 0⟩ := by decide +kernel

theorem test_busy_table (i : Fin 128) (e : RemapEntry) (h : e ∈ busy.rmt[i]) :
    i = 0 ∧ e = ⟨home, .moving (some 2) 0⟩ := by
  have k : ∀ i : Fin 128, i ≠ 0 → busy.rmt[i] = none := by decide +kernel
  by_cases hi : i = 0
  · subst hi
    rw [test_busy_entry] at h
    exact ⟨rfl, (Option.some.inj h).symm⟩
  · rw [k i hi] at h
    exact absurd h (by simp)

theorem test_busy_spares : SparesMatchEntries busy := by
  have k : ∀ b i : Fin 16, busy.spare b i = .assigned ↔ b = 1 ∧ (i = 2 ∨ i = 0) := by decide +kernel
  refine ⟨fun b i => ⟨fun h => ?_, ?_⟩, ?_, ?_⟩
  · obtain ⟨rfl, hi⟩ := (k b i).mp h
    refine ⟨0, _, test_busy_entry, rfl, ?_⟩
    rcases hi with rfl | rfl
    · exact Or.inl rfl
    · exact Or.inr rfl
  · rintro ⟨j, e, he, hb, hi⟩
    obtain ⟨rfl, rfl⟩ := test_busy_table j e he
    refine (k b i).mpr ⟨hb.symm, ?_⟩
    rcases hi with hi | hi
    · exact Or.inl (Option.some.inj hi).symm
    · exact Or.inr (Option.some.inj hi).symm
  · intro i e he j e' he' _ _ _ _
    rw [(test_busy_table i e he).1, (test_busy_table j e' he').1]
  · intro i e he
    rw [(test_busy_table i e he).2]
    decide

theorem test_witness_SparesStayMatched : SparesMatchEntries busy ∧ ∃ t, step busy = .next t :=
  ⟨test_busy_spares, test_busy_steps⟩

theorem test_witness_CopyStaysInRange : CopyInRange busy ∧ ∃ t, step busy = .next t :=
  ⟨⟨test_witness_ProfilesStayInRange.1, by unfold MigContext.inRange; decide +kernel⟩, test_busy_steps⟩

theorem test_witness_ScrubberStaysWithLink : ScrubberFollowsLink busy ∧ ∃ t, step busy = .next t :=
  ⟨by unfold ScrubberFollowsLink ScrubLine.inRange; decide +kernel, test_busy_steps⟩

theorem test_witness_PortStaysCoherent : PortCoherent busy ∧ ∃ t, step busy = .next t :=
  ⟨by unfold PortCoherent; decide +kernel, test_busy_steps⟩

theorem test_witness_StarvationStaysCounted : StarvationCounted busy ∧ ∃ t, step busy = .next t :=
  ⟨by unfold StarvationCounted; decide +kernel, test_busy_steps⟩

theorem test_witness_HostStaysCoherent : HostCoherent busy ∧ ∃ t, step busy = .next t :=
  ⟨by unfold HostCoherent RecordTracked; refine ⟨?_, ?_, ?_, ?_, ?_, ?_, ?_, ?_⟩ <;> decide +kernel, test_busy_steps⟩

theorem test_witness_CaptureStaysPending : CaptureStands busy ∧ ∃ t, step busy = .next t :=
  ⟨by unfold CaptureStands; decide +kernel, test_busy_steps⟩

theorem test_witness_WellFormedCommandsComplete :
    RepairCoherent busy ∧ Instr.migrationStart.wellFormed = true := ⟨test_busy_repair, rfl⟩

theorem test_busy_resets : ResetCoherent busy :=
  ⟨fun _ => by decide +kernel, fun h => by revert h; decide +kernel, fun h => by revert h; decide +kernel,
    fun h => by revert h; decide +kernel, fun h => absurd rfl h⟩

theorem test_witness_ResetsStayCoherent :
    (ResetCoherent busy ∧ ∃ t, step busy = .next t) ∧
      (after (.deviceReset []) busy).rst.force ≠ .none ∧ HoldsResetValues (after (.deviceReset []) busy) :=
  ⟨⟨test_busy_resets, test_busy_steps⟩, by decide +kernel, by unfold HoldsResetValues; decide +kernel⟩

theorem test_witness_CoherentRunsComplete : Coherent busy ∧ QueueWellFormed busy :=
  ⟨⟨test_witness_ListsStayBounded.1, test_busy_repair, test_busy_spares, test_witness_CopyStaysInRange.1,
    test_witness_ScrubberStaysWithLink.1, test_witness_PortStaysCoherent.1, test_witness_StarvationStaysCounted.1,
    test_witness_HostStaysCoherent.1, test_witness_CaptureStaysPending.1, test_busy_resets⟩, by unfold QueueWellFormed; decide +kernel⟩

theorem test_witness_RetiredSparesStayRetired :
    SparesMatchEntries busy ∧ exec .rstNFall busy = .next (after .rstNFall busy) ∧ busy.spare 3 5 = .retired :=
  ⟨test_busy_spares, rfl, by decide +kernel⟩

theorem test_witness_CountersOnlyGrow : exec .dpReadyFall live = .next (after .dpReadyFall live) := rfl

/-- As `live`, in a frame that began during a reset. -/
def unheard : State := live.setMgp { live.mgp with frame := .ignored }

theorem test_witness_BadFramesChangeNothingElse :
    State.reset.inReset = true ∧ ¬Heard State.reset ∧ ¬Heard unheard ∧ isFrameEnd (.gateOpen []) = true ∧
      isFrameEnd (.mgmtFrameError (.rise [])) = true ∧ Heard live ∧
      actionOf (.gateOpen [0#8]) = some (.gateOpen, [0#8]) ∧ [0#8].length ≠ Action.gateOpen.argLength ∧
      30 ≤ (30#8).toNat := by decide +kernel

theorem test_witness_CommandFramesWriteResults :
    Heard busy ∧ ListsBounded busy ∧ actionOf (.commit [1#8]) = some (.commit, [1#8]) ∧
      actionOf (.deviceReset []) = some (.deviceReset, []) ∧ Heard (after (.mgmtFrameError .fall) live) :=
  ⟨by decide +kernel, test_witness_ListsStayBounded.1, rfl, rfl, by decide +kernel⟩

theorem test_witness_ResultFrameReadsTheBuffer :
    Heard (after (.gateOpen []) live) ∧
      (after (.gateOpen []) live).mgp.buffer = .unread ⟨.refused .state, 0#8, 20#8, false⟩ := by decide +kernel

theorem test_witness_FrameErrorsAreCounted :
    live.mgp.frame = .idle ∧ unheard.mgp.frame ≠ .idle ∧ Heard live ∧ isFrameError [true] = true ∧
      isFrameError (byteBits 91#8) = true ∧ isFrameError (byteBits 165#8 ++ [true]) = true ∧
      firstByte (byteBits 165#8 ++ [true]) = 165#8 ∧ isFrameError (byteBits 90#8 ++ [true]) = true ∧
      firstByte (byteBits 90#8 ++ [true]) = 90#8 ∧ byteBits 90#8 ≠ [] ∧
      isFrameError (byteBits 90#8) = false := by decide +kernel

theorem test_witness_HostAddressDivision :
    homeOfAddress 2147483647 = none ∧ homeOfAddress 2146959359 = some (⟨15, 65519⟩, 31) ∧
      homeOfAddress 2146959360 = none ∧ homeOfAddress 2147483648 = none := by decide +kernel

theorem test_witness_ProtocolErrorDiscardsRequest :
    (after .upstreamLinkReset live).pins.upRstN = false ∧ (after .upstreamLinkReset live).inReset = false ∧
      live.inReset = false ∧ live.pins.upRstN = true ∧
      (after .upRstNRelease (after .upstreamLinkReset
        (live.putRecord 3 (some (readRecord 1))))).up.link = .down ∧
      (after .upRstNRelease (after .upstreamLinkReset
        (live.putRecord 3 (some (readRecord 1))))).pins.upRstN = true ∧
      ({ live with up := { live.up with credits := 0 } } : State).up.credits = 0 ∧
      (requestTag readMsg = some 3 ∧ ((waiting live).record 3).isSome = true ∧ (waiting live).up.credits ≠ 0) ∧
      (live.up.link = .up ∧ live.up.credits ≠ 0 ∧ requestKind [195#8] = none ∧
        (∀ tag, requestTag [195#8] = some tag → live.record tag = none)) ∧
      requestKind [] = none ∧ requestTag [] = none := by
  decide +kernel

theorem test_witness_RequestAnsweredOrForwarded :
    PassesProtocol live readMsg 3 .read ∧ PassesProtocol closed readMsg 3 .read ∧
      PassesProtocol live (writeMsg 0#8) 3 .write ∧ requestMask (writeMsg 0#8) = 0#64 ∧
      PassesProtocol (after .dpReadyFall live) readMsg 3 .read ∧
      PassesProtocol live [64#8, 0#8, 128#8, 0#8, 0#8, 0#8] 0 .read ∧
      homeOfAddress (requestAddress [64#8, 0#8, 128#8, 0#8, 0#8, 0#8]) = none ∧
      homeOfAddress (requestAddress readMsg) = some (home, 0) ∧ requestMask (writeMsg 255#8) ≠ 0#64 := by
  unfold PassesProtocol
  decide +kernel

theorem test_witness_UpstreamLinkResetsAndEntersUp :
    (after .upstreamLinkReset live).up.link = .down ∧ (after .upstreamLinkReset live).rst.force = .none ∧
      (∀ tag, ∀ r ∈ (after .upstreamLinkReset live).record tag, r.orphan = false) ∧ live.up.link = .up ∧
      (after .upstreamLinkReset live).pins.upRstN = false := by decide +kernel

theorem test_witness_GateOpensAndDrains :
    Heard live ∧ closed.up.gate ≠ .opened ∧ live.up.gate = .opened ∧
      (∀ tag, live.record tag = none) ∧ (waiting live).up.gate = .opened ∧ (waiting live).record 3 ≠ none ∧
      (after (.gateDrain []) (waiting live)).up.gate = .draining := by decide +kernel

theorem test_witness_LookupAndTranslation :
    HomesDistinct busy ∧ busy.rmt[0] = some ⟨home, .moving (some 2) 0⟩ ∧ busy.entryOf ⟨0, 65519⟩ = none ∧
      (withEntry live (.held none 0)).entryOf home = some ⟨home, .held none 0⟩ ∧
      (0 : Fin 32).val < (moving { context with cursor := 1 }).copyCursor ∧ busy.copyCursor ≤ (0 : Fin 32).val :=
  ⟨test_busy_repair.1, by decide +kernel⟩

theorem test_witness_HostGrantIssuesLegs :
    busy.dp.link = .up ∧ busy.pins.dpReqReady = true ∧ busy.up.forward = [3] ∧
      busy.record 3 = some (readRecord 0) ∧ busy.dp.starvation < busy.operating.starvationLimit ∧
      (waiting live).internalPresents = false ∧ (live.up.forward = [] ∧ live.internalPresents = false) := by
  decide +kernel

theorem test_witness_CopyRequestsAreIssued :
    InternalTurn (moving context) ∧ (moving context).mge.ctx = some context ∧ context.phase = .wait ∧
      context.awaited = .copyRead ∧ context.cursor.val = (0 : Fin 32).val ∧
      (∀ e ∈ (moving context).dp.fifo, e.owner ≠ .copy) ∧
      InternalTurn (moving { context with awaited := .copyWrite, cursor := 31, buffer := some ⟨[], true⟩ }) := by
  unfold InternalTurn
  decide +kernel

theorem test_witness_OvertakenCopyWriteIsWithdrawn :
    let c : MigContext :=
      { context with awaited := .copyWrite, buffer := some ⟨[], true⟩, overtaken := true, poisoned := 1 }
    let last : MigContext := { c with lineRetries := 4 }
    InternalTurn (moving c) ∧ (moving c).mge.ctx = some c ∧ c.phase = .wait ∧
      (∀ e ∈ (moving c).dp.fifo, e.owner ≠ .copy) ∧
      (moving c).rmt[c.slot] = some ⟨c.home, .moving (some 2) c.target⟩ ∧
      c.lineRetries < (moving c).operating.retryLimit ∧ InternalTurn (moving last) ∧
      (moving last).operating.retryLimit ≤ last.lineRetries := by
  unfold InternalTurn
  decide +kernel

theorem test_witness_ScrubReadIssuedOrSkipped :
    InternalTurn (scrubbing .continuous (some lastLine)) ∧
      (scrubbing .continuous (some lastLine)).migPresents = false ∧ lastLine.phase = .awaitRead ∧
      (scrubbing .continuous (some lastLine)).rowMigrating (rowOfLine lastLine.line) = false ∧
      rowOfLine 2592 = home ∧
      InternalTurn ((withEntry live (.held none 0)).putLine (some (.begin 2592))) ∧
      (withEntry live (.held none 0)).rowMigrating (rowOfLine 2592) = true := by
  unfold InternalTurn
  decide +kernel

theorem test_witness_ScrubWritebackIssuedOrDropped :
    let l : ScrubLine := ⟨.awaitWriteback, 2592, some ⟨home.loc, false⟩, false, some []⟩
    InternalTurn (live.putLine (some l)) ∧ (live.putLine (some l)).migPresents = false ∧
      live.rowMigrating home = false ∧ live.currentLoc home = home.loc ∧ (live.entryOf home).isSome = false ∧
      (withEntry live (.active 2)).currentLoc home ≠ home.loc := by
  unfold InternalTurn
  decide +kernel

theorem test_witness_HostLegAnswersRespond :
    fitAnswer .read (dataAnswer 1#8) = some (.ce, List.replicate 64 7#8) ∧
      (awaiting (live.putRecord 3 (some (readRecord 1))) (fifoEntry (.host 3 .source) .read false)).record 3 =
        some (readRecord 1) ∧
      (readRecord 1).legsAnswered + 1 = (readRecord 1).legsIssued ∧
      (readRecord 2).legsAnswered + 1 ≠ (readRecord 2).legsIssued := by decide +kernel

theorem test_witness_OrphanedAnswersAreAbsorbed :
    let s := awaiting (live.putRecord 3 (some { readRecord 1 with orphan := true }))
      (fifoEntry (.host 3 .source) .read true)
    s.dp.link = .up ∧ s.dp.fifo = [fifoEntry (.host 3 .source) .read true] ∧
      fitAnswer .read [2#8] = some (.ue, []) ∧ (s.record 3).isSome = true ∧
      (awaiting live (fifoEntry .copy .write true)).dp.fifo = [fifoEntry .copy .write true] ∧
      fitAnswer .write [0#8] ≠ none ∧ (after .dpReadyFall live).dp.link ≠ .up := by decide +kernel

theorem test_witness_CopyReadAnswerFillsTheBuffer :
    let c : MigContext := { context with phase := .reading }
    let last : MigContext := { c with overtaken := true, lineRetries := 4 }
    let s := awaiting (moving c) (fifoEntry .copy .read false)
    let t := awaiting (moving last) (fifoEntry .copy .read false)
    (s.dp.link = .up ∧ s.mge.ctx = some c ∧ c.overtaken = false ∧
      fitAnswer .read (dataAnswer 0#8) = some (.ok, List.replicate 64 7#8) ∧
      fitAnswer .read [2#8] = some (.ue, []) ∧ c.lineRetries < s.operating.retryLimit ∧
      s.emn.losses.length < 8 ∧ 8 ≤ (List.replicate 8 (LossRecord.mk home 0 .copy 0#16)).length) ∧
      t.dp.link = .up ∧ t.mge.ctx = some last ∧ t.operating.retryLimit ≤ last.lineRetries ∧
      t.rmt[last.slot] = some ⟨last.home, .moving (some 2) last.target⟩ := by
  decide +kernel

theorem test_witness_EndOfCopySettlesTheEntry :
    let c : MigContext := { context with phase := .writing, cursor := 32, awaited := .copyWrite }
    (awaiting (moving c) (fifoEntry .copy .write false)).mge.ctx = some c ∧
      (awaiting (moving c) (fifoEntry .copy .write false)).rmt[c.slot] = some ⟨c.home, .moving (some 2) 0⟩ ∧
      fitAnswer .write [0#8] = some (.ok, []) ∧ context.phase ≠ .writing := by decide +kernel

theorem test_witness_ScrubAnswerEndsOrHoldsTheLine :
    let l : ScrubLine := { lastLine with phase := .reading, recorded := some ⟨home.loc, false⟩ }
    (awaiting (scrubbing .single (some l)) (fifoEntry .scrub .read false)).psc.line = some l ∧
      (awaiting (scrubbing .single (some l)) (fifoEntry .scrub .read false)).dp.link = .up ∧
      fitAnswer .read (dataAnswer 1#8) = some (.ce, List.replicate 64 7#8) ∧
      (scrubbing .single (some l)).operating.scrubWriteback = true := by decide +kernel

/-- A full suspect list, its first two records unpinned. -/
def fullList : List SuspectRecord :=
  [⟨⟨0, 0⟩, 1, 0, false, .host⟩, ⟨⟨0, 1⟩, 1, 0, false, .host⟩] ++
    List.replicate 30 ⟨⟨0, 2⟩, 8, 0, true, .scrub⟩

theorem test_witness_suspect_known :
    EntersList (live.putSuspects [suspect]) home false .scrub { suspect with ceCount := 4, origin := .scrub } [] :=
  Or.inl ⟨suspect, by decide +kernel, by decide +kernel, by decide +kernel⟩

theorem test_witness_suspect_fresh : EntersList live home true .scrub ⟨home, 0, 1, false, .scrub⟩ [] :=
  Or.inr ⟨by decide +kernel, by decide +kernel, Or.inl (by decide +kernel)⟩

theorem test_witness_suspect_evicts :
    EntersList (live.putSuspects fullList) home false .host ⟨home, 1, 0, false, .host⟩
      (⟨⟨0, 0⟩, 1, 0, false, .host⟩ :: List.replicate 30 ⟨⟨0, 2⟩, 8, 0, true, .scrub⟩) :=
  Or.inr ⟨by decide +kernel, by decide +kernel, Or.inr ⟨by decide +kernel, [⟨⟨0, 0⟩, 1, 0, false, .host⟩],
    ⟨⟨0, 1⟩, 1, 0, false, .host⟩, List.replicate 30 ⟨⟨0, 2⟩, 8, 0, true, .scrub⟩, by decide +kernel⟩⟩

theorem test_witness_SuspectUpdateChangesTheList :
    live.emn.losses.length < 8 ∧ 8 ≤ (List.replicate 8 (LossRecord.mk home 0 .copy 0#16)).length ∧
      (live.putSuspects (List.replicate 32 { suspect with home := ⟨0, 0⟩, pinned := true })).suspectOf home = none ∧
      (withEntry live (.held none 0)).entryOf home = some ⟨home, .held none 0⟩ ∧
      live.operating.ceThreshold = 8 ∧ live.operating.autoRepair = false ∧ live.entryOf home = none ∧
      (after (.profileFieldWrite .autoRepair 1#32) live).operating.autoRepair = true := by decide +kernel

theorem test_witness_FaultSettlesEveryOwner :
    busy.dp.link = .up ∧ busy.dp.fifo.head? = none ∧ busy.mge.ctx = some context ∧
      busy.rmt[context.slot] = some ⟨context.home, .moving (some 2) context.target⟩ ∧
      isDue (live.setDp { live.dp with timer := some ⟨2000, 2000⟩ }).dp.timer = true ∧
      fitAnswer (fifoEntry .copy .read true).kind [3#8] = none := by decide +kernel

theorem test_witness_DownstreamLinkRetrainsAndEntersUp :
    let s : State := { live with dp := { live.dp with link := .retrain, pulse := some ⟨10, 10⟩ } }
    s.inReset = false ∧ isDue s.dp.pulse = true ∧ s.pins.dpReady = true ∧ Heard live ∧ isDue live.dp.timer = false ∧ isDue live.dp.pulse = false ∧
      (after .dpReadyFall live).dp.link = .fault ∧ live.dp.link ≠ .fault := by decide +kernel

theorem test_witness_RemapEntriesLoadedAndReported :
    Heard live ∧ 127 < (128#8).toNat ∧ live.rmt[127] = none ∧
      (withEntry live (.active 2)).rmt[0] = some ⟨home, .active 2⟩ ∧ 15 < (16#8).toNat ∧
      65520 ≤ (255#8).toNat * 256 + (240#8).toNat ∧ live.slotOf ⟨15, 65519⟩ = none ∧
      (withEntry live (.active 2)).slotOf home = some 0 ∧ closed.up.gate = .closed ∧ closed.mge.ctx = none ∧
      closed.slotOf home = none ∧ closed.spare 1 15 = .free ∧ closed.rmt[0] = none ∧ live.up.gate ≠ .closed ∧
      (∀ i : Fin 128, ({ closed with rmt := Vector.replicate 128 (some ⟨home, .active 2⟩) } : State).rmt[i] ≠ none) ∧
      (withEntry closed (.active 2)).spare 1 2 ≠ .free := by decide +kernel

theorem test_witness_SparesAreRetiredAndReported :
    Heard live ∧ 15 < (16#8).toNat ∧ closed.up.gate = .closed ∧ closed.spare 15 15 = .free ∧
      (withEntry closed (.active 2)).spare 1 2 ≠ .free := by decide +kernel

theorem test_witness_DecayHalvesUnpinned :
    isDue (live.setEmn { live.emn with decay := some ⟨1000000, 1000000⟩ }).emn.decay = true ∧
      isDue (live.setEmn { live.emn with decay := some ⟨1000000, 999999⟩ }).emn.decay = false ∧
      exec (.profileFieldWrite .decayInterval 1#32) live = .next (after (.profileFieldWrite .decayInterval 1#32) live) ∧
      (after (.profileFieldWrite .decayInterval 1#32) live).operating.decayInterval ≠ live.operating.decayInterval :=
  ⟨by decide +kernel, by decide +kernel, rfl, by decide +kernel⟩

theorem test_witness_LossReadTakesTheOldest :
    Heard live ∧ live.emn.losses = [] ∧
      (live.addLoss home 31 .scrub).emn.losses = ⟨home, 31, .scrub, 0#16⟩ :: [] := by decide +kernel

theorem test_witness_SuspectsAreReadAndCleared :
    Heard live ∧ 31 < (32#8).toNat ∧ (31#8).toNat ≤ 31 ∧ live.emn.suspects.length ≤ (0#8).toNat ∧
      (live.putSuspects [suspect]).emn.suspects[(0#8).toNat]? = some suspect ∧
      (live.putSuspects [suspect]).emn.suspects = [] ++ suspect :: [] ∧
      (busy.entryOf home).map RemapEntry.st = some (.moving (some 2) 0) ∧ busy.mge.queue.length = 1 ∧
      { suspect with pinned := true } ∈ busy.emn.suspects := by
  decide +kernel

theorem test_witness_RepairRequestsAreQueued :
    Heard live ∧ 1 < (2#8).toNat ∧ (1#8).toNat ≤ 1 ∧ 65520 ≤ (255#8).toNat * 256 + (240#8).toNat ∧
      live.mge.queue = [] ∧ live.rowMigrating home = false ∧ busy.rowMigrating home = true ∧
      (busy.mge.queue = [] ++ ⟨⟨2, 0⟩, .hold, .auto⟩ :: []) ∧
      8 ≤ (live.putQueue (List.replicate 8 ⟨⟨2, 0⟩, .hold, .auto⟩)).mge.queue.length ∧ live.mge.ctx = none := by
  decide +kernel

theorem test_witness_MigrationStartsOrFails :
    let q : RepairRequest := ⟨home, .hold, .request⟩
    (live.putQueue [q]).mge.queue = [q] ∧ live.mge.ctx = none ∧ live.dp.link = .up ∧ live.slotOf home = none ∧
      live.rmt[0] = none ∧ live.spare 1 0 = .free ∧
      (withEntry live (.active 0)).slotOf home = some 0 ∧
      (withEntry live (.active 0)).rmt[0] = some ⟨home, .active 0⟩ ∧
      (withEntry live (.active 0)).spare 1 1 = .free ∧
      (∀ j : Fin 16, j < 1 → (withEntry live (.active 0)).spare 1 j ≠ .free) ∧
      (withEntry live (.held none 0)).rmt[0] = some ⟨home, .held none 0⟩ := by decide +kernel

theorem test_witness_HeldRowsAreSettled :
    Heard live ∧ 15 < (16#8).toNat ∧ (withEntry live (.held (some 2) 0)).slotOf home = some 0 ∧
      (withEntry live (.held (some 2) 0)).rmt[0] = some ⟨home, .held (some 2) 0⟩ ∧ live.entryOf home = none := by
  decide +kernel

theorem test_witness_AbortRollsBackTheMigration :
    Heard busy ∧ live.mge.ctx = none ∧ busy.mge.ctx = some context ∧
      busy.rmt[context.slot] = some ⟨context.home, .moving (some 2) context.target⟩ ∧
      ∀ q ∈ busy.mge.queue, q.home ≠ context.home := by decide +kernel

/-- Scrubbing towards the end of the last row, which is HELD. -/
def skipping (m : ScrubMode) : State :=
  (scrubbing m none).putSlot 0 (some ⟨rowOfLine 33546239, .held none 0⟩)

theorem test_witness_ScrubIntervalBeginsALine :
    isDue live.psc.timer = false ∧ isDue (scrubbing .single (some lastLine)).psc.timer = true ∧
      (scrubbing .single (some lastLine)).psc.line ≠ none ∧ (scrubbing .single none).psc.line = none ∧
      (scrubbing .single none).psc.state = .running .single ∧
      (scrubbing .single none).rowMigrating (rowOfLine (scrubbing .single none).psc.cursor) = false ∧
      (skipping .continuous).psc.state = .running .continuous ∧ isDue (skipping .continuous).psc.timer = true ∧
      (skipping .continuous).psc.line = none ∧
      (skipping .continuous).rowMigrating (rowOfLine (skipping .continuous).psc.cursor) = true ∧
      (skipping .single).psc.cursor.val / 32 + 1 = 1048320 := by decide +kernel

theorem test_witness_skipping_homes : HomesDistinct (skipping .continuous) ∧ HomesDistinct (skipping .single) := by
  have k : ∀ m (i : Fin 128), i ≠ 0 → (skipping m).rmt[i] = none := by
    intro m; cases m <;> decide +kernel
  have d : ∀ m, HomesDistinct (skipping m) := by
    intro m i e he j e' he' _
    have z : ∀ (i : Fin 128) (e : RemapEntry), e ∈ (skipping m).rmt[i] → i = 0 := fun i e h => by
      by_contra hi
      rw [k m i hi] at h
      cases h
    rw [z i e he, z j e' he']
  exact ⟨d _, d _⟩

theorem test_witness_ScrubStartsAndStops :
    Heard live ∧ 1 < (2#8).toNat ∧ (1#8).toNat ≤ 1 ∧ live.psc.state = .idle ∧
      (scrubbing .single none).psc.state ≠ .idle ∧ live.dp.link = .up ∧ (after .dpReadyFall live).dp.link ≠ .up := by
  decide +kernel

theorem test_witness_StatusActionsReportAndClear : Heard live := by decide +kernel

theorem test_witness_AlertIdentifyCaptures :
    Heard busy ∧ busy.alc.capture ≠ none ∧ live.alc.capture = none := by decide +kernel

theorem test_witness_ItemsAreReadAndWritten :
    Heard live ∧ itemOf (10#8).toNat = none ∧ itemOf (63#8).toNat = some (.counter .scrubPasses) ∧
      32 ≤ (63#8).toNat ∧ itemOf (19#8).toNat = some .dlinkTimeout ∧ (19#8).toNat < 32 ∧
      live.writeValue .dlinkTimeout 65536#32 = none ∧ (live.writeValue .dlinkTimeout 65535#32).isSome = true := by
  decide +kernel

theorem test_witness_SettingWritesTakeEffect :
    Heard live ∧ 2 ≤ (2#32).toNat ∧ fieldMax .retryLimit < (16#32).toNat ∧
      (0#32).toNat < fieldMin .retryLimit ∧ (1#32).toNat = (1 : Fin 2).val ∧
      fieldMin .decayInterval ≤ (0#32).toNat ∧ (65535#32).toNat ≤ fieldMax .decayInterval ∧ 64 ≤ (64#32).toNat ∧
      (63#32).toNat < 64 ∧ 65536 ≤ (65536#32).toNat ∧ (65535#32).toNat ≤ 65535 := by decide +kernel

theorem test_witness_DeviceResetKeepsTheMemoryDescription :
    busy.inReset = false ∧ Heard busy ∧ RepairCoherent busy ∧ busy.mge.ctx = some context :=
  ⟨by decide +kernel, by decide +kernel, test_busy_repair, by decide +kernel⟩

theorem test_witness_ResetsEnd :
    let held := after (.deviceReset []) live
    let passed : State := { held with rst := { held.rst with hold := some ⟨10, 10⟩ } }
    ResetReleased passed ∧ passed.up.link = .down ∧ passed.psc.state = .idle ∧ passed.dp.link = .retrain ∧
      passed.dp.pulse = some ⟨10, 0⟩ ∧ (∀ tag, passed.record tag = none) ∧ held.rst.force ≠ .none ∧
      ({ State.reset with rst := { State.reset.rst with supplies := true } } : State).rst.force = .powerOn := by
  refine ⟨⟨by decide +kernel, Or.inr ⟨by decide +kernel, ?_⟩⟩, by decide +kernel⟩
  rintro h ⟨⟩
  decide

theorem test_witness_ResetsEnd_held : ¬ResetReleased (after (.deviceReset []) live) := by
  rintro ⟨-, ⟨h, -⟩ | ⟨-, h⟩⟩
  · exact absurd h (by decide +kernel)
  · exact absurd (h ⟨10, 0⟩ (by decide +kernel)) (by decide)

end Sys2Proof.Tests
end

section
/-! SUPPORT. Address division and line numbering (R1, R2, R3, R97), and the statement O23. -/

namespace Sys2Proof.Proofs

open Sys2Proof Sys2Proof.Machine

/-! ### Address division -/

/-- R1 and R2 read as equations between the fields of the address and the parts of its home row and line. -/
theorem homeOfAddress_eq_some_iff (a : Nat) (h : HomeRow) (k : Fin 32) :
    homeOfAddress a = some (h, k) ↔
      a < 2147483648 ∧ a / 32768 = h.row.val ∧ a / 2048 % 16 = h.bank.val ∧ a / 64 % 32 = k.val := by
  obtain ⟨⟨b, hb⟩, ⟨r, hr⟩⟩ := h
  obtain ⟨k, hk⟩ := k
  unfold homeOfAddress
  split
  · simp only [Option.some.injEq, Prod.mk.injEq, HomeRow.mk.injEq, Fin.ext_iff, Fin.val_ofNat]
    omega
  · simp only [reduceCtorEq, false_iff]
    omega

/-- R2: the addresses that name no home row. -/
theorem homeOfAddress_eq_none_iff (a : Nat) :
    homeOfAddress a = none ↔ 2147483648 ≤ a ∨ 65520 ≤ a / 32768 % 65536 := by
  unfold homeOfAddress
  split
  · simp only [reduceCtorEq, false_iff]
    omega
  · simp only [true_iff]
    omega

/-! ### Line numbering -/

theorem rowOfLine_eq_iff (c : Fin 33546240) (h : HomeRow) :
    rowOfLine c = h ↔ c.val / 512 = h.row.val ∧ c.val / 32 % 16 = h.bank.val := by
  obtain ⟨b, r⟩ := h
  simp only [rowOfLine, HomeRow.mk.injEq, Fin.ext_iff, Fin.val_ofNat]
  exact and_comm

theorem indexOfLine_eq_iff (c : Fin 33546240) (k : Fin 32) : indexOfLine c = k ↔ c.val % 32 = k.val := by
  simp only [indexOfLine, Fin.ext_iff, Fin.val_ofNat]

/-- R3: a host-visible index and an address in range name the same line exactly where the index is the
address divided by 64. -/
theorem line_of_address_iff {a : Nat} {h : HomeRow} {k : Fin 32} (e : homeOfAddress a = some (h, k))
    (c : Fin 33546240) : c.val = a / 64 ↔ rowOfLine c = h ∧ indexOfLine c = k := by
  obtain ⟨ha, hrow, hbank, hline⟩ := (homeOfAddress_eq_some_iff a h k).mp e
  rw [rowOfLine_eq_iff, indexOfLine_eq_iff]
  omega

/-- Settles O23: each part reads the division of R1 and R2, or the numbering of R3, as equations. -/
theorem hostAddressDivision : Obligations.HostAddressDivision := by
  unfold Obligations.HostAddressDivision
  refine ⟨fun b r k x => ?_, fun a _ => homeOfAddress_eq_none_iff a,
    fun a h k c e => line_of_address_iff e c⟩
  rw [homeOfAddress_eq_some_iff]
  dsimp only
  omega

end Sys2Proof.Proofs
end

section
/-! SUPPORT. The lookup of a home row, its current location and the legs of a host request (R9 to R13,
Table 1-4), and the statement O28. -/

namespace Sys2Proof.Proofs

open Sys2Proof Sys2Proof.Machine

variable {s : State} {h : HomeRow} {k : Fin 32} {e : RemapEntry}

/-! ### Lookup -/

/-- R9: where homes are distinct, the lookup of an entry's home row answers the entry's own slot. -/
theorem slotOf_home (hd : HomesDistinct s) {i : Fin 128} (he : s.rmt[i] = some e) :
    s.slotOf e.home = some i := by
  cases hs : s.slotOf e.home with
  | none => exact absurd rfl (State.slotOf_none.mp hs i e he)
  | some j =>
    obtain ⟨x, hx, hxe⟩ := State.slotOf_some hs
    rw [hd j x hx i e he hxe]

theorem entryOf_of_slotOf {i : Fin 128} (hs : s.slotOf h = some i) : s.entryOf h = s.rmt[i] := by
  simp [State.entryOf, hs]

theorem entryOf_of_slotOf_none (hs : s.slotOf h = none) : s.entryOf h = none := by
  simp [State.entryOf, hs]

/-! ### Current location (R11) -/

theorem currentLoc_of_no_entry (he : s.entryOf h = none) : s.currentLoc h = h.loc := by
  simp [State.currentLoc, he]

theorem currentLoc_of_current {c : Fin 16} (he : s.entryOf h = some e) (hc : e.st.current = some c) :
    s.currentLoc h = spareLoc h.bank c := by
  simp [State.currentLoc, he, hc]

theorem currentLoc_of_no_current (he : s.entryOf h = some e) (hc : e.st.current = none) :
    s.currentLoc h = h.loc := by
  simp [State.currentLoc, he, hc]

/-! ### Second target and legs of a host write (R12, R13, Table 1-4) -/

theorem dualTarget_of_no_entry (he : s.entryOf h = none) : s.dualTarget h k = none := by
  simp [State.dualTarget, he]

theorem dualTarget_of_active {c : Fin 16} (he : s.entryOf h = some e) (hst : e.st = .active c) :
    s.dualTarget h k = none := by
  simp [State.dualTarget, he, hst]

theorem dualTarget_of_held {cur : Option (Fin 16)} {nx : Fin 16} (he : s.entryOf h = some e)
    (hst : e.st = .held cur nx) : s.dualTarget h k = some nx := by
  simp [State.dualTarget, he, hst]

/-- A line of a MOVING row also goes to the next spare once the cursor has passed it. -/
theorem dualTarget_of_moving {cur : Option (Fin 16)} {nx : Fin 16} (he : s.entryOf h = some e)
    (hst : e.st = .moving cur nx) :
    s.dualTarget h k = if k.val < s.copyCursor then some nx else none := by
  simp [State.dualTarget, he, hst]

theorem translate_write_single (hd : s.dualTarget h k = none) :
    s.translate .write h k = [(.source, s.currentLoc h)] := by
  simp [State.translate, hd]

theorem translate_write_dual {nx : Fin 16} (hd : s.dualTarget h k = some nx) :
    s.translate .write h k = [(.source, s.currentLoc h), (.target, spareLoc h.bank nx)] := by
  simp [State.translate, hd]

/-- Settles O28: the lookup by R9, then one case per row of Table 1-4. -/
theorem lookupAndTranslation : Obligations.LookupAndTranslation := by
  unfold Obligations.LookupAndTranslation
  refine ⟨fun s hd => ⟨fun i e he => ?_, fun h hn => ?_⟩, fun s h k =>
    ⟨currentLoc_of_no_entry, fun e he => ⟨fun c hc => currentLoc_of_current he hc,
      currentLoc_of_no_current he⟩, rfl, ?_, ?_⟩⟩
  · have hs := slotOf_home hd he
    exact ⟨hs, (entryOf_of_slotOf hs).trans he⟩
  · have hs := State.slotOf_none.mpr hn
    exact ⟨hs, entryOf_of_slotOf_none hs⟩
  · rintro (he | ⟨e, c, he, hst⟩ | ⟨e, cur, nx, he, hst, hk⟩)
    · exact translate_write_single (dualTarget_of_no_entry he)
    · exact translate_write_single (dualTarget_of_active he hst)
    · exact translate_write_single ((dualTarget_of_moving he hst).trans (if_neg (Nat.not_lt.mpr hk)))
  · rintro e cur nx he (hst | ⟨hst, hk⟩)
    · exact translate_write_dual (dualTarget_of_held he hst)
    · exact translate_write_dual ((dualTarget_of_moving he hst).trans (if_pos hk))

end Sys2Proof.Proofs
end

section
/-! SUPPORT. The argument bytes of a COMMAND frame (R2, R179), the actions of the remap table (R23 to R25,
Table 1-7), and the statement O42. -/

namespace Sys2Proof.Proofs

open Sys2Proof Sys2Proof.Machine Sys2Proof.Claims

variable {s : State}

/-! ### Argument bytes -/

theorem byte_toNat (n : Nat) : (byte n).toNat = n % 256 := BitVec.toNat_ofNat n 8

theorem slotArg_byte (i : Fin 128) : slotArg (byte i.val).toNat = some i := by
  have hi : i.val % 256 = i.val := Nat.mod_eq_of_lt (by omega)
  simp [slotArg, byte_toNat, hi]

theorem slotArg_of_large {n : Nat} (hn : 127 < n) : slotArg n = none := dif_neg (by omega)

theorem fin16Arg_byte (i : Fin 16) : fin16Arg (byte i.val).toNat = some i := by
  have hi : i.val % 256 = i.val := Nat.mod_eq_of_lt (by omega)
  simp [fin16Arg, byte_toNat, hi]

theorem fin16Arg_of_large {n : Nat} (hn : 15 < n) : fin16Arg n = none := dif_neg (by omega)

/-- Three or more argument bytes name the home row that their bank and row bytes spell. -/
theorem homeArgs_cons (b hi lo : Byte) (rest : List Byte) :
    homeArgs (b :: hi :: lo :: rest) = homeArg b.toNat (hi.toNat * 256 + lo.toNat) := rfl

theorem homeArg_of_large {bank row : Nat} (hl : 15 < bank ∨ 65520 ≤ row) : homeArg bank row = none :=
  dif_neg (by omega)

/-- The bytes of a home row name that home row. -/
theorem homeArgs_bytes (h : HomeRow) (rest : List Byte) : homeArgs (h.bytes ++ rest) = some h := by
  have hb : h.bank.val % 256 = h.bank.val := Nat.mod_eq_of_lt (by omega)
  have hr : h.row.val / 256 % 256 * 256 + h.row.val % 256 = h.row.val := by omega
  have e : homeArgs (h.bytes ++ rest) =
      homeArg (byte h.bank.val).toNat ((byte (h.row.val / 256)).toNat * 256 + (byte h.row.val).toNat) := rfl
  rw [e, byte_toNat, byte_toNat, byte_toNat, hb, hr]
  exact dif_pos ⟨h.bank.isLt, h.row.isLt⟩

/-! ### Frames that are received -/

theorem hears_of_heard (hs : Heard s) : s.hears = true := by
  simp [State.hears, hs.1, hs.2]

/-- A received COMMAND frame of the right length answers what its action's body answers (R167). -/
theorem runAction_eq {a : Action} {args : List Byte} {body : State → Reply × State} {r : Reply} {t : State}
    (hs : Heard s) (hl : args.length = a.argLength) (hb : body s = (r, t)) :
    s.runAction a args body = t.answer a.code (a.code :: args) r := by
  rw [State.runAction_body body (hears_of_heard hs) hl, hb]

theorem exec_remapLoad {args : List Byte} {r : Reply} {t : State} (hs : Heard s) (hl : args.length = 4)
    (hb : remapLoadBody args s = (r, t)) :
    exec (.remapLoad args) s = .next (t.answer 1#8 (1#8 :: args) r) :=
  congrArg Host.Outcome.next (runAction_eq (a := .remapLoad) hs hl hb)

theorem exec_remapRead {slot : Byte} {r : Reply} {t : State} (hs : Heard s)
    (hb : remapReadBody [slot] s = (r, t)) :
    exec (.remapRead [slot]) s = .next (t.answer 2#8 [2#8, slot] r) :=
  congrArg Host.Outcome.next (runAction_eq (a := .remapRead) hs rfl hb)

theorem exec_remapFind {args : List Byte} {r : Reply} {t : State} (hs : Heard s) (hl : args.length = 3)
    (hb : remapFindBody args s = (r, t)) :
    exec (.remapFind args) s = .next (t.answer 3#8 (3#8 :: args) r) :=
  congrArg Host.Outcome.next (runAction_eq (a := .remapFind) hs hl hb)

/-! ### REMAP_READ (R24) -/

theorem remapReadBody_range {slot : Byte} (hl : 127 < slot.toNat) :
    remapReadBody [slot] s = (.refused .range, s) := by
  have hn : slotArg (arg [slot] 0) = none := slotArg_of_large hl
  simp [remapReadBody, hn]

theorem remapReadBody_empty {i : Fin 128} (he : s.rmt[i] = none) :
    remapReadBody [byte i.val] s = (.refused .empty, s) := by
  have hi : slotArg (arg [byte i.val] 0) = some i := slotArg_byte i
  simp only [remapReadBody, hi, he]

theorem remapReadBody_done {i : Fin 128} {e : RemapEntry} (he : s.rmt[i] = some e) :
    remapReadBody [byte i.val] s = (.done (remapPayload i e), s) := by
  have hi : slotArg (arg [byte i.val] 0) = some i := slotArg_byte i
  simp only [remapReadBody, hi, he]

/-! ### REMAP_FIND (R25) -/

theorem remapFindBody_range {b hi lo : Byte} (hl : 15 < b.toNat ∨ 65520 ≤ hi.toNat * 256 + lo.toNat) :
    remapFindBody [b, hi, lo] s = (.refused .range, s) := by
  simp only [remapFindBody, homeArgs_cons, homeArg_of_large hl]

theorem remapFindBody_notFound {h : HomeRow} (hn : s.slotOf h = none) :
    remapFindBody h.bytes s = (.refused .notFound, s) := by
  have ha : homeArgs h.bytes = some h := homeArgs_bytes h []
  simp only [remapFindBody, ha, hn]

theorem remapFindBody_done {h : HomeRow} {i : Fin 128} {e : RemapEntry} (hi : s.slotOf h = some i)
    (he : s.rmt[i] = some e) : remapFindBody h.bytes s = (.done (remapPayload i e), s) := by
  have ha : homeArgs h.bytes = some h := homeArgs_bytes h []
  simp only [remapFindBody, ha, hi, State.entryPayload, he]

/-- The entry that the lookup finds has the home row asked for. -/
theorem home_of_slotOf {h : HomeRow} {i : Fin 128} {e : RemapEntry} (hi : s.slotOf h = some i)
    (he : s.rmt[i] = some e) : e.home = h := by
  obtain ⟨x, hx, hxh⟩ := State.slotOf_some hi
  rwa [Option.some.inj (he.symm.trans hx)]

/-! ### REMAP_LOAD (R23, Table 1-7) -/

theorem remapLoadBody_range {b hi lo sp : Byte}
    (hl : 15 < b.toNat ∨ 65520 ≤ hi.toNat * 256 + lo.toNat ∨ 15 < sp.toNat) :
    remapLoadBody [b, hi, lo, sp] s = (.refused .range, s) := by
  unfold remapLoadBody
  rw [homeArgs_cons]
  rcases or_assoc.mpr hl with hh | hsp
  · simp only [homeArg_of_large hh]
  · have hn : fin16Arg (arg [b, hi, lo, sp] 3) = none := fin16Arg_of_large hsp
    rw [hn]
    cases homeArg b.toNat (hi.toNat * 256 + lo.toNat) <;> rfl

theorem remapLoadBody_sent (h : HomeRow) (sp : Fin 16) :
    remapLoadBody (h.bytes ++ [byte sp.val]) s = remapLoad s h sp := by
  have hsp : fin16Arg (arg (h.bytes ++ [byte sp.val]) 3) = some sp := fin16Arg_byte sp
  simp only [remapLoadBody, homeArgs_bytes, hsp]

theorem emptySlot_eq_none (hf : ∀ i : Fin 128, s.rmt[i] ≠ none) : s.emptySlot = none :=
  List.find?_eq_none.mpr fun i _ => by simpa using hf i

section Load

variable {h : HomeRow} {sp : Fin 16}

theorem remapLoad_state (hc : s.up.gate ≠ .closed ∨ s.mge.ctx ≠ none) :
    remapLoad s h sp = (.refused .state, s) :=
  if_pos (hc.imp_right Option.isSome_iff_ne_none.mpr)

variable (hg : s.up.gate = .closed) (hx : s.mge.ctx = none)
include hg hx

theorem remapLoad_duplicate (hd : s.slotOf h ≠ none) : remapLoad s h sp = (.refused .duplicate, s) := by
  simp [remapLoad, hg, hx, Option.isSome_iff_ne_none.mpr hd]

theorem remapLoad_noSpare (hd : s.slotOf h = none) (hf : s.spare h.bank sp ≠ .free) :
    remapLoad s h sp = (.refused .noSpare, s) := by
  simp [remapLoad, hg, hx, hd, hf]

theorem remapLoad_noEntry (hd : s.slotOf h = none) (hf : s.spare h.bank sp = .free)
    (he : s.emptySlot = none) : remapLoad s h sp = (.refused .noEntry, s) := by
  simp [remapLoad, hg, hx, hd, hf, he]

theorem remapLoad_taken {i : Fin 128} (hd : s.slotOf h = none) (hf : s.spare h.bank sp = .free)
    (he : s.emptySlot = some i) :
    remapLoad s h sp =
      (.done [byte i.val], (s.putSlot i (some ⟨h, .active sp⟩)).putSpare h.bank sp .assigned) := by
  simp [remapLoad, hg, hx, hd, hf, he]

end Load

/-- A received REMAP_LOAD whose arguments are in range answers by checks 2 to 5 of Table 1-7. -/
theorem exec_remapLoad_sent {h : HomeRow} {sp : Fin 16} {r : Reply} {t : State} (hs : Heard s)
    (hb : remapLoad s h sp = (r, t)) :
    exec (.remapLoad (h.bytes ++ [byte sp.val])) s =
      .next (t.answer 1#8 (1#8 :: (h.bytes ++ [byte sp.val])) r) :=
  exec_remapLoad hs rfl ((remapLoadBody_sent h sp).trans hb)

/-- Settles O42: the answer of each action's body, case by case, under the frame that is received. -/
theorem remapEntriesLoadedAndReported : Obligations.RemapEntriesLoadedAndReported := by
  unfold Obligations.RemapEntriesLoadedAndReported
  refine ⟨fun s hs => ⟨fun slot hl => exec_remapRead hs (remapReadBody_range hl),
    fun i he => exec_remapRead hs (remapReadBody_empty he),
    fun i e he => exec_remapRead hs (remapReadBody_done he),
    fun b hi lo hl => exec_remapFind hs rfl (remapFindBody_range hl),
    fun h hn => exec_remapFind hs rfl (remapFindBody_notFound hn), fun h i e hi he => ?_⟩, fun s hs => ⟨?_, ?_⟩⟩
  · obtain rfl := home_of_slotOf hi he
    exact exec_remapFind hs rfl (remapFindBody_done hi he)
  · exact fun b hi lo sp hl => exec_remapLoad hs rfl (remapLoadBody_range hl)
  · rintro h sp _ rfl
    refine ⟨fun hc => exec_remapLoad_sent hs (remapLoad_state hc), fun hg hx => ⟨?_, ?_, ?_, ?_⟩⟩
    · exact fun hd => exec_remapLoad_sent hs (remapLoad_duplicate hg hx hd)
    · exact fun hd hf => exec_remapLoad_sent hs (remapLoad_noSpare hg hx hd hf)
    · exact fun hd hf hn => exec_remapLoad_sent hs (remapLoad_noEntry hg hx hd hf (emptySlot_eq_none hn))
    · exact fun i hd hf hi hj =>
        exec_remapLoad_sent hs (remapLoad_taken hg hx hd hf (State.emptySlot_eq hi hj))

end Sys2Proof.Proofs
end

section
/-! SUPPORT. The lookups of the error monitor, the suspect update with its pin check and candidate event
(R46 to R51, R67, Table 3-4), the attribution of answers (R42, Table 3-2), and the statement O39. -/

namespace Sys2Proof.Proofs

open Sys2Proof Sys2Proof.Machine Sys2Proof.Claims

variable {s : State} {h : HomeRow}

/-! ### Migrating and queued rows -/

theorem isMigrating_eq_false_iff (st : EntryState) : st.isMigrating = false ↔ ∃ c, st = .active c := by
  cases st <;> simp [EntryState.isMigrating]

theorem isMoving_iff (st : EntryState) : st.isMoving = true ↔ ∃ cur nx, st = .moving cur nx := by
  cases st <;> simp [EntryState.isMoving]

theorem rowMigrating_eq_false_iff :
    s.rowMigrating h = false ↔ ∀ e, s.entryOf h = some e → ∃ c, e.st = .active c := by
  cases he : s.entryOf h <;> simp [State.rowMigrating, he, isMigrating_eq_false_iff]

theorem rowMigrating_iff : s.rowMigrating h = true ↔ ∃ e, s.entryOf h = some e ∧ ∀ c, e.st ≠ .active c := by
  rw [← Bool.not_eq_false, rowMigrating_eq_false_iff]
  push Not
  rfl

theorem rowMoving_iff :
    s.rowMoving h = true ↔ ∃ e cur nx, s.entryOf h = some e ∧ e.st = .moving cur nx := by
  cases he : s.entryOf h <;> simp [State.rowMoving, he, isMoving_iff]

theorem rowMoving_eq_false_iff :
    s.rowMoving h = false ↔ ∀ e cur nx, s.entryOf h = some e → e.st ≠ .moving cur nx := by
  rw [← Bool.not_eq_true, rowMoving_iff]
  push Not
  rfl

theorem isQueued_iff : s.isQueued h = true ↔ ∃ q ∈ s.mge.queue, q.home = h := by
  simp [State.isQueued]

theorem isQueued_eq_false_iff : s.isQueued h = false ↔ ∀ q ∈ s.mge.queue, q.home ≠ h := by
  simp [State.isQueued]

/-! ### The suspect list -/

theorem suspectOf_eq_none_iff : s.suspectOf h = none ↔ ∀ r ∈ s.emn.suspects, r.home ≠ h := by
  simp [State.suspectOf]

theorem home_of_suspectOf {r : SuspectRecord} (hr : s.suspectOf h = some r) : r.home = h := by
  simpa using List.find?_some hr

theorem filter_home_bne (l : List SuspectRecord) :
    (l.filter fun r => r.home != h) = l.filter fun r => r.home ≠ h :=
  List.filter_congr fun r _ => by simp [bne, beq_eq_decide]

theorem meets_iff (r : SuspectRecord) (n : Nat) : r.meets n = true ↔ n ≤ r.ceCount ∨ 1 ≤ r.ueCount := by
  simp [SuspectRecord.meets]

/-- R46: what one more CE or UE makes of a record. -/
theorem add_eq (r : SuspectRecord) (ue : Bool) (origin : SuspectOrigin) :
    r.add ue origin =
      { home := r.home
        ceCount := if ue then r.ceCount else min 255 (r.ceCount + 1)
        ueCount := if ue then min 15 (r.ueCount + 1) else r.ueCount
        pinned := r.pinned, origin := origin } := by
  cases ue <;> rfl

/-! ### Counters and losses -/

theorem counted_bump (s : State) (k : Counter) : Counted s (s.bump k) k :=
  ⟨by simp [State.counter_bump], fun k' hk => by simp [State.counter_bump, hk]⟩

/-- A bump changes the counters alone. -/
theorem bump_eq (s : State) (k : Counter) : s.bump k = { s with counters := (s.bump k).counters } := rfl

/-- R58, with room in the list. -/
theorem addLoss_of_room {line : Fin 32} {origin : LossOrigin} (hl : s.emn.losses.length < 8) :
    s.addLoss h line origin =
      { s with
        emn := { s.emn with
                 losses := s.emn.losses ++ [⟨h, line, origin, s.emn.lossSeq⟩]
                 lossSeq := s.emn.lossSeq + 1#16 } } :=
  if_pos hl

/-- R58, with a full list: the loss is counted and its sequence number is used up. -/
theorem addLoss_of_full {line : Fin 32} {origin : LossOrigin} (hl : 8 ≤ s.emn.losses.length) :
    s.addLoss h line origin =
      { s with
        emn := { s.emn with lossSeq := s.emn.lossSeq + 1#16 }
        counters := (s.bump .lossOverflow).counters } :=
  if_neg (Nat.not_lt.mpr hl)

/-! ### Candidate events (R50, R51, R67, Table 3-4) -/

theorem candidateEvent_of_known (hk : s.rowMigrating h = true ∨ s.isQueued h = true) :
    s.candidateEvent h = s :=
  if_pos (by simpa using hk)

section Candidate

variable (hm : s.rowMigrating h = false) (hq : s.isQueued h = false)
include hm hq

theorem candidateEvent_requests (ha : s.operating.autoRepair = true) (hl : s.mge.queue.length < 8) :
    s.candidateEvent h =
      { s with mge := { s.mge with queue := s.mge.queue ++ [⟨h, s.operating.commitMode, .auto⟩] } } := by
  have hc : s.mge.queue.length < Config.queueCapacity := hl
  simp [State.candidateEvent, hm, hq, ha, hc, State.putQueue, State.setMge]

theorem candidateEvent_raises (hr : s.operating.autoRepair = false ∨ 8 ≤ s.mge.queue.length) :
    s.candidateEvent h = { s with alc := { s.alc with candidate := true } } := by
  have hc : ¬(s.operating.autoRepair && decide (s.mge.queue.length < Config.queueCapacity)) = true := by
    rw [Bool.and_eq_true, decide_eq_true_iff]
    rintro ⟨ha, hl⟩
    exact hr.elim (fun hf => Bool.noConfusion (hf.symm.trans ha)) (Nat.not_le.mpr hl)
  simp only [State.candidateEvent, hm, hq, if_neg hc]
  rfl

end Candidate

/-! ### Pin check (R49) -/

section PinCheck

variable {r : SuspectRecord} {rest : List SuspectRecord}

theorem insertSuspect_pins (hp : r.pinned = false) (hm : s.operating.ceThreshold ≤ r.ceCount ∨ 1 ≤ r.ueCount) :
    s.insertSuspect r rest = (s.putSuspects ({ r with pinned := true } :: rest)).candidateEvent r.home := by
  simp [State.insertSuspect, hp, (meets_iff r _).mpr hm]

theorem insertSuspect_keeps
    (hk : r.pinned = true ∨ (r.ceCount < s.operating.ceThreshold ∧ r.ueCount = 0)) :
    s.insertSuspect r rest = s.putSuspects (r :: rest) := by
  refine if_neg ?_
  rw [Bool.and_eq_true, meets_iff, Bool.not_eq_true']
  rcases hk with hp | ⟨hc, hu⟩
  · simp [hp]
  · omega

/-- The pin check and its candidate event leave the loss list as it is. -/
theorem insertSuspect_losses : (s.insertSuspect r rest).emn.losses = s.emn.losses ∧
    (s.insertSuspect r rest).emn.lossSeq = s.emn.lossSeq := by
  unfold State.insertSuspect
  split
  · simp [State.putSuspects]
  · exact ⟨rfl, rfl⟩

end PinCheck

/-! ### Suspect updates (R46, R47, R48) -/

section Update

variable {ue : Bool} {origin : SuspectOrigin}

theorem suspectUpdate_of_known {x : SuspectRecord} (hx : s.suspectOf h = some x) :
    s.suspectUpdate h ue origin =
      s.insertSuspect (x.add ue origin) (s.emn.suspects.filter fun y => y.home ≠ h) := by
  simp only [State.suspectUpdate, hx, filter_home_bne]

theorem suspectUpdate_of_room (hx : s.suspectOf h = none) (hl : s.emn.suspects.length < 32) :
    s.suspectUpdate h ue origin = s.insertSuspect (.fresh h ue origin) s.emn.suspects := by
  simp only [State.suspectUpdate, hx]
  exact if_pos hl

theorem suspectUpdate_of_evicted {rest : List SuspectRecord} (hx : s.suspectOf h = none)
    (hl : 32 ≤ s.emn.suspects.length) (he : evictUnpinned s.emn.suspects = some rest) :
    s.suspectUpdate h ue origin = s.insertSuspect (.fresh h ue origin) rest := by
  have hc : ¬ s.emn.suspects.length < Config.suspectCapacity := Nat.not_lt.mpr hl
  simp only [State.suspectUpdate, hx, if_neg hc, he]

theorem suspectUpdate_of_not_evicted (hx : s.suspectOf h = none) (hl : 32 ≤ s.emn.suspects.length)
    (he : evictUnpinned s.emn.suspects = none) : s.suspectUpdate h ue origin = s.bump .suspectDrops := by
  have hc : ¬ s.emn.suspects.length < Config.suspectCapacity := Nat.not_lt.mpr hl
  simp only [State.suspectUpdate, hx, if_neg hc, he]

theorem suspectUpdate_losses (s : State) (h : HomeRow) (ue : Bool) (origin : SuspectOrigin) :
    (s.suspectUpdate h ue origin).emn.losses = s.emn.losses ∧
      (s.suspectUpdate h ue origin).emn.lossSeq = s.emn.lossSeq := by
  cases hx : s.suspectOf h with
  | some x => exact suspectUpdate_of_known hx ▸ insertSuspect_losses
  | none =>
    rcases Nat.lt_or_ge s.emn.suspects.length 32 with hl | hl
    · exact suspectUpdate_of_room hx hl ▸ insertSuspect_losses
    · cases he : evictUnpinned s.emn.suspects with
      | some rest => exact suspectUpdate_of_evicted hx hl he ▸ insertSuspect_losses
      | none => exact suspectUpdate_of_not_evicted hx hl he ▸ ⟨rfl, rfl⟩

variable {r : SuspectRecord} {rest : List SuspectRecord}

theorem home_of_entersList (he : EntersList s h ue origin r rest) : r.home = h := by
  rcases he with ⟨x, -, -, rfl⟩ | ⟨-, rfl, -⟩ <;> rfl

/-- The record and the list of R46, R47 and R48 are those on which the pin check is made. -/
theorem suspectUpdate_of_entersList (he : EntersList s h ue origin r rest) :
    s.suspectUpdate h ue origin = s.insertSuspect r rest := by
  rcases he with ⟨x, hx, rfl, rfl⟩ | ⟨hn, rfl, ⟨hl, rfl⟩ | ⟨hl, front, x, back, hf, hp, hb, rfl⟩⟩
  · rw [suspectUpdate_of_known hx, add_eq, home_of_suspectOf hx]
  · exact suspectUpdate_of_room hn hl
  · exact suspectUpdate_of_evicted hn hl (hf ▸ evictUnpinned_eq hp hb)

end Update

/-! ### Attribution -/

/-- R58 after the suspect update of a SCRUB_READ answered UE, the losses being those before the update. -/
theorem attributeScrub_ue (s : State) (h : HomeRow) (line : Fin 32) :
    ∃ u v t : State, Counted s u .scrubUe ∧ u = { s with counters := u.counters } ∧
      v = u.suspectUpdate h true .scrub ∧ s.attributeScrub h line .ue = t ∧
      (s.emn.losses.length < 8 →
        t = { v with
              emn := { v.emn with
                       losses := s.emn.losses ++ [⟨h, line, .scrub, s.emn.lossSeq⟩]
                       lossSeq := s.emn.lossSeq + 1#16 } }) ∧
      (8 ≤ s.emn.losses.length →
        Counted v t .lossOverflow ∧
        t = { v with
              emn := { v.emn with losses := s.emn.losses, lossSeq := s.emn.lossSeq + 1#16 }
              counters := t.counters }) := by
  have hv : ((s.bump .scrubUe).suspectUpdate h true .scrub).emn.losses = s.emn.losses ∧
      ((s.bump .scrubUe).suspectUpdate h true .scrub).emn.lossSeq = s.emn.lossSeq :=
    suspectUpdate_losses (s.bump .scrubUe) h true .scrub
  obtain ⟨hlosses, hseq⟩ := hv
  refine ⟨_, _, _, counted_bump s .scrubUe, bump_eq s .scrubUe, rfl, rfl, fun hl => ?_, fun hl => ?_⟩
  · exact (addLoss_of_room (hlosses ▸ hl)).trans (by rw [hlosses, hseq])
  · have ht := addLoss_of_full (h := h) (line := line) (origin := .scrub) (hlosses ▸ hl)
    have hc := counted_bump ((s.bump .scrubUe).suspectUpdate h true .scrub) .lossOverflow
    rw [State.attributeScrub, ht, hseq, ← hlosses]
    exact ⟨hc, rfl⟩

/-- Settles O39: the attribution by status, the suspect update through the pin check, the drop, and the
candidate event by the cases of Table 3-4. -/
theorem suspectUpdateChangesTheList : Obligations.SuspectUpdateChangesTheList := by
  unfold Obligations.SuspectUpdateChangesTheList
  refine ⟨fun s h line => ⟨rfl, rfl,
      ⟨_, counted_bump s .hostCe, bump_eq s .hostCe, rfl⟩, ⟨_, counted_bump s .hostUe, bump_eq s .hostUe, rfl⟩,
      ⟨_, counted_bump s .scrubCe, bump_eq s .scrubCe, rfl⟩, attributeScrub_ue s h line⟩,
    fun s h ue origin r rest he => ?_, fun s h ue origin hn hl hp => ?_, fun s h => ⟨fun hk => ?_, fun hm hq => ?_⟩⟩
  · have hu := suspectUpdate_of_entersList he
    refine ⟨fun hp hm => ?_, fun hk => hu.trans (insertSuspect_keeps hk)⟩
    rw [hu, insertSuspect_pins hp hm, home_of_entersList he]
    rfl
  · rw [suspectUpdate_of_not_evicted hn hl (evictUnpinned_none hp)]
    exact ⟨counted_bump s .suspectDrops, bump_eq s .suspectDrops⟩
  · exact candidateEvent_of_known (hk.imp rowMigrating_iff.mpr isQueued_iff.mpr)
  · have hm' := rowMigrating_eq_false_iff.mpr hm
    have hq' := isQueued_eq_false_iff.mpr hq
    exact ⟨candidateEvent_requests hm' hq', candidateEvent_raises hm' hq'⟩

end Sys2Proof.Proofs
end

section
/-! SUPPORT. The actions that read and clear the loss list and the suspect list (R60 to R63, R161), and the
statements O45 and O46. -/

namespace Sys2Proof.Proofs

open Sys2Proof Sys2Proof.Machine Sys2Proof.Claims

variable {s : State} {h : HomeRow}

/-! ### Release of a capture (R161) -/

theorem release_eq (a : AlertController) (c : Cause) :
    a.release c = { a with capture := if a.capture = some c then none else a.capture } := by
  unfold AlertController.release
  split <;> rfl

theorem clearCause_candidate (s : State) :
    s.clearCause .candidate =
      { s with
        alc := { s.alc with
                 candidate := false
                 capture := if s.alc.capture = some Cause.candidate then none else s.alc.capture } } := by
  rw [State.clearCause, release_eq]
  rfl

theorem clearCause_dataLoss (s : State) :
    s.clearCause .dataLoss =
      { s with
        alc := { s.alc with
                 capture := if s.alc.capture = some Cause.dataLoss then none else s.alc.capture } } := by
  rw [State.clearCause, release_eq]
  rfl

/-- R155: DATA_LOSS is pending while the loss list holds a record. -/
theorem isPending_dataLoss_iff : s.isPending .dataLoss = true ↔ s.emn.losses ≠ [] := by
  simp [State.isPending]

/-! ### LOSS_READ (R60) -/

theorem exec_lossRead {r : Reply} {t : State} (hs : Heard s) (hb : lossReadBody s = (r, t)) :
    exec (.lossRead []) s = .next (t.answer 9#8 [9#8] r) :=
  congrArg Host.Outcome.next (runAction_eq (a := .lossRead) (body := lossReadBody) hs rfl hb)

theorem lossReadBody_empty (hl : s.emn.losses = []) : lossReadBody s = (.refused .empty, s) := by
  simp only [lossReadBody, hl]

/-- A LOSS_READ that leaves records behind touches the list alone; one that empties it clears DATA_LOSS. -/
theorem lossReadBody_done {r : LossRecord} {rest : List LossRecord} (hl : s.emn.losses = r :: rest) :
    lossReadBody s =
      (.done (lossPayload r),
        { s with
          emn := { s.emn with losses := rest }
          alc := { s.alc with
                   capture := if rest = [] ∧ s.alc.capture = some Cause.dataLoss then none
                              else s.alc.capture } }) := by
  cases rest with
  | nil =>
    simp only [lossReadBody, hl, List.isEmpty_nil, if_true, clearCause_dataLoss, true_and]
    rfl
  | cons x xs =>
    simp only [lossReadBody, hl, List.isEmpty_cons, reduceCtorEq, false_and, if_false]
    rfl

/-- Settles O45: the body's answer on an empty list and on a list with an oldest record. -/
theorem lossReadTakesTheOldest : Obligations.LossReadTakesTheOldest := by
  unfold Obligations.LossReadTakesTheOldest
  exact fun s hs => ⟨fun hl => exec_lossRead hs (lossReadBody_empty hl), fun r rest hl =>
    ⟨_, exec_lossRead hs (lossReadBody_done hl), rfl, isPending_dataLoss_iff⟩⟩

/-! ### SUSPECT_READ (R61) -/

theorem exec_suspectRead {i : Byte} {r : Reply} {t : State} (hs : Heard s) (hb : suspectReadBody [i] s = (r, t)) :
    exec (.suspectRead [i]) s = .next (t.answer 6#8 [6#8, i] r) :=
  congrArg Host.Outcome.next (runAction_eq (a := .suspectRead) (body := suspectReadBody [i]) hs rfl hb)

theorem suspectReadBody_range {i : Byte} (hi : 31 < i.toNat) : suspectReadBody [i] s = (.refused .range, s) :=
  if_pos hi

theorem byte_of_toNat (i : Byte) : byte i.toNat = i := by simp [byte]

theorem suspectReadBody_notFound {i : Byte} (hi : i.toNat ≤ 31) (hl : s.emn.suspects.length ≤ i.toNat) :
    suspectReadBody [i] s = (.refused .notFound, s) := by
  have hi' : ¬ 31 < arg [i] 0 := Nat.not_lt.mpr hi
  have hn : s.emn.suspects[arg [i] 0]? = none := List.getElem?_eq_none hl
  simp only [suspectReadBody, if_neg hi', hn]

theorem suspectReadBody_done {i : Byte} {r : SuspectRecord} (hi : i.toNat ≤ 31)
    (hr : s.emn.suspects[i.toNat]? = some r) :
    suspectReadBody [i] s =
      (.done [i, byte r.home.bank.val, byte (r.home.row.val / 256), byte r.home.row.val, byte r.ceCount,
        byte r.ueCount, flagByte r.pinned, r.origin.code], s) := by
  have hi' : ¬ 31 < arg [i] 0 := Nat.not_lt.mpr hi
  have hr' : s.emn.suspects[arg [i] 0]? = some r := hr
  have hb : byte (arg [i] 0) = i := byte_of_toNat i
  simp only [suspectReadBody, if_neg hi', hr', suspectPayload, hb]
  rfl

/-! ### SUSPECT_CLEAR (R62, Table 3-6) -/

theorem exec_suspectClear {args : List Byte} {r : Reply} {t : State} (hs : Heard s) (hl : args.length = 3)
    (hb : suspectClearBody args s = (r, t)) :
    exec (.suspectClear args) s = .next (t.answer 7#8 (7#8 :: args) r) :=
  congrArg Host.Outcome.next (runAction_eq (a := .suspectClear) (body := suspectClearBody args) hs hl hb)

theorem suspectClearBody_range {b hi lo : Byte} (hl : 15 < b.toNat ∨ 65520 ≤ hi.toNat * 256 + lo.toNat) :
    suspectClearBody [b, hi, lo] s = (.refused .range, s) := by
  simp only [suspectClearBody, homeArgs_cons, homeArg_of_large hl]

/-- A received SUSPECT_CLEAR that names a home row answers by checks 2 and 3 of Table 3-6. -/
theorem exec_suspectClear_sent {r : Reply} {t : State} (hs : Heard s) (hb : suspectClear s h = (r, t)) :
    exec (.suspectClear h.bytes) s = .next (t.answer 7#8 (7#8 :: h.bytes) r) := by
  have ha : homeArgs h.bytes = some h := homeArgs_bytes h []
  exact exec_suspectClear hs rfl (by simpa only [suspectClearBody, ha] using hb)

theorem suspectClear_state (hc : s.isQueued h = true ∨ s.rowMoving h = true) :
    suspectClear s h = (.refused .state, s) :=
  if_pos (by simpa using hc)

/-! The one record of a home row, with the records before and behind it. -/

section OneRecord

variable {front back : List SuspectRecord} {r : SuspectRecord}
  (hl : s.emn.suspects = front ++ r :: back) (hr : r.home = h) (ho : ∀ x ∈ front ++ back, x.home ≠ h)
include hl hr ho

theorem suspectOf_split : s.suspectOf h = some r := by
  have hf : front.find? (fun x => x.home == h) = none :=
    List.find?_eq_none.mpr fun x hx => by simpa using ho x (List.mem_append_left _ hx)
  simp [State.suspectOf, hl, hf, hr]

theorem suspectPosition_split : s.suspectPosition h = front.length := by
  have hf : front.findIdx (fun x => x.home == h) = front.length :=
    List.findIdx_eq_length_of_false fun x hx => by simpa using ho x (List.mem_append_left _ hx)
  simp [State.suspectPosition, hl, List.findIdx_append, hf, List.findIdx_cons, hr]

theorem dropSuspect_split :
    s.dropSuspect h = { s with emn := { s.emn with suspects := front ++ back } } := by
  have hk : (front ++ back).filter (fun x => x.home != h) = front ++ back :=
    List.filter_eq_self.mpr fun x hx => by simpa using ho x hx
  have hd : s.emn.suspects.filter (fun x => x.home != h) = front ++ back := by
    rw [hl, ← hk]
    simp [hr]
  rw [State.dropSuspect, hd]
  rfl

end OneRecord

section Clear

variable (hq : s.isQueued h = false) (hm : s.rowMoving h = false)
include hq hm

theorem suspectClear_notFound (hn : s.suspectOf h = none) : suspectClear s h = (.refused .notFound, s) := by
  simp [suspectClear, hq, hm, hn]

theorem suspectClear_done {front back : List SuspectRecord} {r : SuspectRecord}
    (hl : s.emn.suspects = front ++ r :: back) (hr : r.home = h) (ho : ∀ x ∈ front ++ back, x.home ≠ h) :
    suspectClear s h =
      (.done [byte front.length, byte h.bank.val, byte (h.row.val / 256), byte h.row.val, byte r.ceCount,
          byte r.ueCount, flagByte r.pinned, r.origin.code],
        { s with emn := { s.emn with suspects := front ++ back } }) := by
  simp only [suspectClear, hq, hm, Bool.or_false, Bool.false_eq_true, if_false, suspectOf_split hl hr ho,
    suspectPosition_split hl hr ho, dropSuspect_split hl hr ho, suspectPayload, hr]
  rfl

end Clear

/-! ### CANDIDATE_LIST (R63) -/

/-- The listed records are the pinned ones whose rows are neither queued nor in migration. -/
theorem mem_candidates_iff (r : SuspectRecord) :
    r ∈ s.candidates ↔ r ∈ s.emn.suspects ∧ r.pinned = true ∧ (∀ q ∈ s.mge.queue, q.home ≠ r.home) ∧
      ∀ e, s.entryOf r.home = some e → ∃ c, e.st = .active c := by
  simp only [State.candidates, List.mem_filter, Bool.and_eq_true, Bool.not_eq_true', and_assoc,
    isQueued_eq_false_iff, rowMigrating_eq_false_iff]

theorem exec_candidateList (hs : Heard s) :
    exec (.candidateList []) s =
      .next ((s.clearCause .candidate).answer 8#8 [8#8]
        (.done (byte s.candidates.length :: 0#8 :: 0#8 :: 0#8 :: s.candidates.flatMap fun r =>
          [byte r.home.bank.val, byte (r.home.row.val / 256), byte r.home.row.val, 0#8]))) :=
  congrArg Host.Outcome.next (runAction_eq (a := .candidateList) (body := candidateListBody) hs rfl rfl)

/-- Settles O46: the answer of each action's body, case by case, under the frame that is received. -/
theorem suspectsAreReadAndCleared : Obligations.SuspectsAreReadAndCleared := by
  unfold Obligations.SuspectsAreReadAndCleared
  refine ⟨fun s hs => ⟨fun i hi => exec_suspectRead hs (suspectReadBody_range hi),
    fun i hi hl => exec_suspectRead hs (suspectReadBody_notFound hi hl),
    fun i r hi hr => exec_suspectRead hs (suspectReadBody_done hi hr),
    fun b hi lo hl => exec_suspectClear hs rfl (suspectClearBody_range hl), fun h => ⟨fun hc => ?_, fun hq hm => ?_⟩⟩,
    fun s hs => ⟨s.candidates, ?_, List.filter_sublist, fun r hr => ?_⟩⟩
  · exact exec_suspectClear_sent hs (suspectClear_state (hc.imp isQueued_iff.mpr rowMoving_iff.mpr))
  · have hq' := isQueued_eq_false_iff.mpr hq
    have hm' := rowMoving_eq_false_iff.mpr hm
    exact ⟨fun hn => exec_suspectClear_sent hs (suspectClear_notFound hq' hm' (suspectOf_eq_none_iff.mpr hn)),
      fun front r back hl hr ho => exec_suspectClear_sent hs (suspectClear_done hq' hm' hl hr ho)⟩
  · rw [exec_candidateList hs, clearCause_candidate]
  · rw [mem_candidates_iff, and_iff_right hr]

end Sys2Proof.Proofs
end

section
/-! SUPPORT. Commit, rollback, abort and end of copy of a migration, and its retry (R20, R21, R33, R34, R55, R56,
R78, R83, R85), each as the one state it leaves. -/

namespace Sys2Proof.Proofs

open Sys2Proof Sys2Proof.Machine Sys2Proof.Claims

variable {s : State} {h : HomeRow} {i : Fin 128} {st : EntryState} {cur : Option (Fin 16)} {nx : Fin 16}
  {c : MigContext}

/-! ### Commit and rollback of an entry -/

/-- A retirement of the old current spare touches the spare pool alone. -/
theorem retireOld_eq (s : State) (b : Fin 16) (old : Option (Fin 16)) :
    s.retireOld b old = { s with spl := (s.retireOld b old).spl } := by
  cases old <;> rfl

/-- What a retirement leaves in the spare pool does not depend on the other blocks. -/
theorem retireOld_spl_congr {t : State} (e : s.spl = t.spl) (b : Fin 16) (old : Option (Fin 16)) :
    (s.retireOld b old).spl = (t.retireOld b old).spl := by
  cases old <;> simp [State.retireOld, State.putSpare, e]

theorem dropSuspect_eq (s : State) (h : HomeRow) :
    s.dropSuspect h =
      { s with emn := { s.emn with suspects := s.emn.suspects.filter fun r => r.home ≠ h } } := by
  rw [State.dropSuspect, filter_home_bne]
  rfl

/-- The changed flags after a change of a spare: the bank's own is set, the others stay (R36). -/
theorem changed_putSpare (s : State) (bank idx b : Fin 16) (x : SpareState) :
    (s.putSpare bank idx x).spl.changed[b] = (s.spl.changed[b] || b == bank) := by
  by_cases hb : b = bank
  · subst hb
    simp [State.putSpare]
  · have hv : ¬ bank.val = b.val := fun e => hb (Fin.ext e.symm)
    simp [State.putSpare, hb, hv]

theorem commitSlot_eq (hi : s.rmt[i] = some ⟨h, st⟩) (hm : st.migration = some (cur, nx)) :
    s.commitSlot i =
      { s with
        rmt := s.rmt.set i (some ⟨h, .active nx⟩), spl := (s.retireOld h.bank cur).spl
        emn := { s.emn with suspects := s.emn.suspects.filter fun r => r.home ≠ h } } := by
  have hp : (s.putSlot i (some ⟨h, .active nx⟩)).spl = s.spl := rfl
  simp only [State.commitSlot, hi, hm]
  rw [dropSuspect_eq, retireOld_eq, retireOld_spl_congr hp]
  rfl

theorem rollbackSlot_eq (hi : s.rmt[i] = some ⟨h, st⟩) (hm : st.migration = some (cur, nx)) :
    s.rollbackSlot i =
      { s with
        rmt := s.rmt.set i (cur.map fun x => ⟨h, .active x⟩)
        spl := { spares := s.spl.spares.set h.bank ((s.spl.spares[h.bank]).set nx .free)
                 changed := s.spl.changed.set h.bank true }
        emn := { s.emn with
                 suspects := s.emn.suspects.map fun r =>
                   if r.home = h then { r with pinned := false } else r } } := by
  simp only [State.rollbackSlot, hi, hm]
  rfl

/-! ### Abort (R85) -/

theorem orphanCopies_eq (fifo : List FifoEntry) :
    orphanCopies fifo = fifo.map fun e => if e.owner = .copy then { e with orphan := true } else e :=
  List.map_congr_left fun e _ => by simp [FifoEntry.isCopy]

/-- To orphan an entry leaves its owner, and so what the scrubber sees of the FIFO. -/
theorem any_isScrub_orphanCopies (fifo : List FifoEntry) :
    (orphanCopies fifo).any FifoEntry.isScrub = fifo.any FifoEntry.isScrub := by
  have he : ∀ e : FifoEntry,
      FifoEntry.isScrub (if e.isCopy then { e with orphan := true } else e) = e.isScrub := fun e => by
    split <;> rfl
  simp only [orphanCopies, List.any_map, Function.comp_def, he]

/-- R143 with the migration context idle: the scrubber alone keeps the starvation count. -/
theorem settleStarvation_of_idle (hc : s.mge.ctx = none) :
    s.settleStarvation =
      { s with dp := { s.dp with starvation := if s.scrubPresents then s.dp.starvation else 0 } } := by
  have hp : s.internalPresents = s.scrubPresents := by simp [State.internalPresents, State.migPresents, hc]
  rw [State.settleStarvation, hp]
  split <;> rfl

/-- R85: an abort leaves the entry rolled back, its COPY entry an orphan, the outcome recorded and counted. -/
theorem abortMigration_eq (hc : s.mge.ctx = some c) (hi : s.rmt[c.slot] = some ⟨c.home, .moving cur c.target⟩)
    (o : MigOutcome) (alert : Bool) :
    s.abortMigration o alert =
      { s with
        rmt := s.rmt.set c.slot (cur.map fun x => ⟨c.home, .active x⟩)
        spl := { spares := s.spl.spares.set c.home.bank ((s.spl.spares[c.home.bank]).set c.target .free)
                 changed := s.spl.changed.set c.home.bank true }
        emn := { s.emn with
                 suspects := s.emn.suspects.map fun r =>
                   if r.home = c.home then { r with pinned := false } else r }
        mge := { s.mge with ctx := none, last := some (c.outcome o) }
        dp := { s.dp with
                fifo := s.dp.fifo.map fun e => if e.owner = .copy then { e with orphan := true } else e
                starvation := if s.scrubPresents then s.dp.starvation else 0 }
        alc := { s.alc with migration := s.alc.migration || alert }
        counters := (s.bump .migrationsAborted).counters } := by
  have hs : ∀ t : State, t.psc = s.psc → t.dp.fifo = orphanCopies s.dp.fifo →
      t.scrubPresents = s.scrubPresents := fun t hpsc hfifo => by
    simp only [State.scrubPresents, hpsc, hfifo, any_isScrub_orphanCopies]
  simp only [State.abortMigration, hc, rollbackSlot_eq hi rfl]
  rw [settleStarvation_of_idle (by cases alert <;> rfl), hs _ (by cases alert <;> rfl) (by cases alert <;> rfl),
    ← orphanCopies_eq]
  cases alert
  · simp only [Bool.or_false]
    rfl
  · simp only [Bool.or_true]
    rfl

theorem abortMigration_aborted (hc : s.mge.ctx = some c)
    (hi : s.rmt[c.slot] = some ⟨c.home, .moving cur c.target⟩) (o : MigOutcome) (alert : Bool) :
    Aborted s (s.abortMigration o alert) c cur o := by
  rw [abortMigration_eq hc hi]
  exact ⟨rfl, rfl, rfl, rfl⟩

/-! ### Retry (R78) and end of copy (R83) -/

theorem retryDecision_retries (hl : c.lineRetries < s.operating.retryLimit) :
    s.retryDecision c =
      { s with
        mge := { s.mge with ctx := some c.retry }, counters := (s.bump .copyRetries).counters } :=
  if_neg (Nat.not_le.mpr hl)

theorem putCtx_self (hc : s.mge.ctx = some c) : s.putCtx (some c) = s := by
  rw [State.putCtx, ← hc]
  rfl

theorem retryDecision_aborts (hc : s.mge.ctx = some c) (hl : s.operating.retryLimit ≤ c.lineRetries) :
    s.retryDecision c = s.abortMigration .abortedContended true := by
  rw [State.retryDecision, if_pos hl, putCtx_self hc]

theorem endOfCopy_holds (hm : c.mode = .hold) (hi : s.rmt[c.slot] = some ⟨h, .moving cur nx⟩) :
    s.endOfCopy c =
      { s with
        rmt := s.rmt.set c.slot (some ⟨h, .held cur nx⟩)
        mge := { s.mge with ctx := none, last := some (c.outcome .held) }
        alc := { s.alc with migration := true } } := by
  simp only [State.endOfCopy, hm, hi]
  rfl

theorem endOfCopy_commits (hm : c.mode = .autoCommit) (hi : s.rmt[c.slot] = some ⟨h, .moving cur nx⟩) :
    s.endOfCopy c =
      { s with
        rmt := s.rmt.set c.slot (some ⟨h, .active nx⟩), spl := (s.retireOld h.bank cur).spl
        emn := { s.emn with suspects := s.emn.suspects.filter fun r => r.home ≠ h }
        mge := { s.mge with ctx := none, last := some (c.outcome .committed) }
        alc := { s.alc with migration := true }
        counters := (s.bump .migrationsCommitted).counters } := by
  simp only [State.endOfCopy, hm, commitSlot_eq hi rfl]
  rfl

end Sys2Proof.Proofs
end

section
/-! SUPPORT. The answers to COPY requests (R78 to R80, R82, R83), and the statements O36 and O37. -/

namespace Sys2Proof.Proofs

open Sys2Proof Sys2Proof.Machine Sys2Proof.Claims

/-! ### Delivery (R138, R140) -/

theorem popFifo_eq (s : State) (rest : List FifoEntry) :
    s.popFifo rest = { s with dp := { s.dp with fifo := rest, timer := timerAfterAnswer s rest } } := by
  cases rest <;> rfl

/-- The answer that fits the oldest entry, a COPY entry that is no orphan, goes to the migration engine. -/
theorem exec_copyAnswer {s : State} {msg : List Byte} {e : FifoEntry} {rest : List FifoEntry} {st : AnswerStatus}
    {data : List Byte} (hl : s.dp.link = .up) (hf : s.dp.fifo = e :: rest) (ho : e.owner = .copy)
    (hn : e.orphan = false) (ha : fitAnswer e.kind msg = some (st, data)) :
    exec (.downstreamAnswer msg) s = .next ((s.popFifo rest).copyAnswer e st data) := by
  have ht : s.takeAnswer msg = (s.popFifo rest).copyAnswer e st data := by
    simp only [State.takeAnswer, hf, ha, State.deliver, ho, hn]
  rw [← ht]
  exact congrArg Host.Outcome.next (if_pos hl)

section Answer

variable {s : State} {e : FifoEntry} {c : MigContext} {st : AnswerStatus} {data : List Byte}
  (hc : s.mge.ctx = some c)
include hc

theorem copyAnswer_read (hk : e.kind = .read) (hp : c.phase = .reading) :
    s.copyAnswer e st data = s.copyReadAnswer c e st data := by
  simp only [State.copyAnswer, hc, hk, hp]

theorem copyAnswer_write (hk : e.kind = .write) (hp : c.phase = .writing) :
    s.copyAnswer e st data = s.endOfCopy c := by
  simp only [State.copyAnswer, hc, hk, hp]

theorem copyAnswer_write_ignored (hk : e.kind = .write) (hp : c.phase ≠ .writing) :
    s.copyAnswer e st data = s := by
  cases hq : c.phase with
  | writing => exact absurd hq hp
  | wait | reading => simp only [State.copyAnswer, hc, hk, hq]

end Answer

/-! ### The answer to a COPY_READ (R79, R80) -/

section ReadAnswer

variable {s : State} {e : FifoEntry} {c : MigContext} {st : AnswerStatus} {data : List Byte}

theorem copyReadAnswer_overtaken (ho : c.overtaken = true) : s.copyReadAnswer c e st data = s.retryDecision c :=
  if_pos ho

theorem copyReadAnswer_fills (ho : c.overtaken = false) (hst : st ≠ .ue) :
    s.copyReadAnswer c e st data = s.putCtx (some (c.filled data)) := by
  cases st with
  | ue => exact absurd rfl hst
  | ok | ce => simp [State.copyReadAnswer, ho]

theorem copyReadAnswer_poisons (ho : c.overtaken = false) :
    s.copyReadAnswer c e .ue data = ((s.putCtx (some c.poison)).bump .copyUe).addLoss c.home e.line .copy := by
  simp [State.copyReadAnswer, ho]

end ReadAnswer

/-- R58: a loss writes the error monitor and the counters alone. -/
theorem addLoss_eq (s : State) (h : HomeRow) (line : Fin 32) (o : LossOrigin) :
    s.addLoss h line o =
      { s with emn := (s.addLoss h line o).emn, counters := (s.addLoss h line o).counters } := by
  unfold State.addLoss
  split <;> rfl

/-- R58: a loss changes the loss list and the count of overflows, with the list full or not. -/
theorem addLoss_effect (s : State) (h : HomeRow) (line : Fin 32) (o : LossOrigin) :
    (∀ k, k ≠ .lossOverflow → (s.addLoss h line o).counter k = s.counter k) ∧
      (s.emn.losses.length < 8 →
        (s.addLoss h line o).emn =
          { s.emn with
            losses := s.emn.losses ++ [⟨h, line, o, s.emn.lossSeq⟩], lossSeq := s.emn.lossSeq + 1#16 } ∧
          (s.addLoss h line o).counter .lossOverflow = s.counter .lossOverflow) ∧
      (8 ≤ s.emn.losses.length →
        (s.addLoss h line o).emn = { s.emn with lossSeq := s.emn.lossSeq + 1#16 } ∧
          (s.addLoss h line o).counter .lossOverflow = satInc (s.counter .lossOverflow)) := by
  obtain ⟨hcount, hframe⟩ := counted_bump s .lossOverflow
  rcases Nat.lt_or_ge s.emn.losses.length 8 with hl | hl
  · rw [addLoss_of_room hl]
    exact ⟨fun _ _ => rfl, fun _ => ⟨rfl, rfl⟩, fun hg => absurd hl (Nat.not_lt.mpr hg)⟩
  · rw [addLoss_of_full hl]
    exact ⟨hframe, fun hg => absurd hg (Nat.not_lt.mpr hl), fun _ => ⟨rfl, hcount⟩⟩

/-- Settles O36: the answer reaches the engine with its entry removed, and each case is one of the retry
decision, its abort, the filled and the poisoned buffer. -/
theorem copyReadAnswerFillsTheBuffer : Obligations.CopyReadAnswerFillsTheBuffer := by
  unfold Obligations.CopyReadAnswerFillsTheBuffer
  intro s msg e rest c st data hl hf ho hk hn ha hc hp
  have hcp : (s.popFifo rest).mge.ctx = some c := hc
  rw [exec_copyAnswer hl hf ho hn (hk ▸ ha), copyAnswer_read hcp hk hp]
  refine ⟨fun hv hlim => ?_, fun cur hv hlim hi => ?_, fun hv hst => ?_, fun hv hst => ?_⟩
  · rw [copyReadAnswer_overtaken hv, retryDecision_retries (s := s.popFifo rest) hlim, popFifo_eq]
    exact ⟨_, rfl, counted_bump s .copyRetries, rfl⟩
  · rw [copyReadAnswer_overtaken hv, retryDecision_aborts hcp hlim]
    have hab := abortMigration_aborted hcp hi .abortedContended true
    rw [abortMigration_eq hcp hi, Bool.or_true] at hab ⊢
    rw [popFifo_eq] at hab ⊢
    exact ⟨_, rfl, counted_bump s .migrationsAborted, hab, rfl⟩
  · rw [copyReadAnswer_fills hv hst, popFifo_eq]
    rfl
  · subst hst
    rw [copyReadAnswer_poisons hv, popFifo_eq]
    obtain ⟨hcount, hframe⟩ := counted_bump s .copyUe
    obtain ⟨hothers, hroom, hfull⟩ := addLoss_effect
      ((State.putCtx { s with dp := { s.dp with fifo := rest, timer := timerAfterAnswer s rest } }
        (some c.poison)).bump .copyUe) c.home e.line .copy
    refine ⟨_, rfl, addLoss_eq _ c.home e.line .copy, (hothers .copyUe (by decide)).trans hcount,
      fun k hk hk' => (hothers k hk').trans (hframe k hk), fun hr => ?_, fun hr => ?_⟩
    · obtain ⟨hemn, hover⟩ := hroom hr
      exact ⟨hemn, hover.trans (hframe _ (by decide))⟩
    · obtain ⟨hemn, hover⟩ := hfull hr
      exact ⟨hemn, hover.trans (congrArg satInc (hframe _ (by decide)))⟩

/-! ### The answer to a COPY_WRITE (R82, R83) -/

/-- R34: the spare pool after the retirement of the old current spare, where there is one. -/
theorem retireOld_effect {s t : State} {bank : Fin 16} {cur : Option (Fin 16)}
    (ht : t.spl = (s.retireOld bank cur).spl) :
    (cur = none → t.spl = s.spl) ∧
      ∀ x, cur = some x →
        (∀ b i, t.spare b i = if b = bank ∧ i = x then .retired else s.spare b i) ∧
          ∀ b : Fin 16, t.spl.changed[b] = (s.spl.changed[b] || b == bank) := by
  refine ⟨?_, ?_⟩
  · rintro rfl
    exact ht
  · rintro x rfl
    refine ⟨fun b i => (State.spare_congr ht b i).trans (s.spare_putSpare bank x b i .retired), fun b => ?_⟩
    rw [ht]
    exact changed_putSpare s bank x b .retired

/-- Settles O37: the answer reaches the engine with its entry removed, and the end of copy holds or commits. -/
theorem endOfCopySettlesTheEntry : Obligations.EndOfCopySettlesTheEntry := by
  unfold Obligations.EndOfCopySettlesTheEntry
  intro s msg e rest c cur nx st data hl hf ho hk hn ha hc
  have hcp : (s.popFifo rest).mge.ctx = some c := hc
  rw [exec_copyAnswer hl hf ho hn (hk ▸ ha)]
  refine ⟨fun hp => by rw [copyAnswer_write_ignored hcp hk hp, popFifo_eq], fun hp hi => ?_⟩
  rw [copyAnswer_write hcp hk hp]
  cases hm : c.mode with
  | hold =>
    rw [endOfCopy_holds (s := s.popFifo rest) hm hi, popFifo_eq]
    refine ⟨_, rfl, rfl, ?_, fun _ => ⟨rfl, rfl, rfl, rfl⟩, fun hm' => Mode.noConfusion hm'⟩
    rw [MigContext.outcome, hm]
    rfl
  | autoCommit =>
    have hspl : ((s.popFifo rest).retireOld c.home.bank cur).spl = (s.retireOld c.home.bank cur).spl :=
      retireOld_spl_congr (s := s.popFifo rest) (t := s) rfl c.home.bank cur
    rw [endOfCopy_commits (s := s.popFifo rest) hm hi, hspl, popFifo_eq]
    refine ⟨_, rfl, rfl, ?_, fun hm' => Mode.noConfusion hm', fun _ =>
      ⟨rfl, counted_bump s .migrationsCommitted, rfl, retireOld_effect (s := s) rfl⟩⟩
    rw [MigContext.outcome, hm]
    rfl

end Sys2Proof.Proofs
end

section
/-! SUPPORT. The actions of the repair queue and of the migration engine (R68 to R70, R84, R86), and the
statements O48, O50 and O51. -/

namespace Sys2Proof.Proofs

open Sys2Proof Sys2Proof.Machine Sys2Proof.Claims

variable {s : State} {h : HomeRow}

/-! ### REPAIR_REQUEST (R68, Table 4-2) -/

theorem modeArg_of_large {m : Byte} (hm : 1 < m.toNat) : modeArg m.toNat = none := by
  unfold modeArg
  split
  · omega
  · omega
  · rfl

theorem exists_modeArg_of_le {m : Byte} (hm : m.toNat ≤ 1) : ∃ x, modeArg m.toNat = some x := by
  interval_cases m.toNat
  · exact ⟨_, rfl⟩
  · exact ⟨_, rfl⟩

theorem modeArg_code (m : Mode) : modeArg m.code.toNat = some m := by
  cases m <;> rfl

theorem exec_repairRequest {args : List Byte} {r : Reply} {t : State} (hs : Heard s) (hl : args.length = 4)
    (hb : repairRequestBody args s = (r, t)) :
    exec (.repairRequest args) s = .next (t.answer 10#8 (10#8 :: args) r) :=
  congrArg Host.Outcome.next (runAction_eq (a := .repairRequest) hs hl hb)

theorem repairRequestBody_badArg {b hi lo m : Byte} (hm : 1 < m.toNat) :
    repairRequestBody [b, hi, lo, m] s = (.badArg, s) := by
  have hn : modeArg (arg [b, hi, lo, m] 3) = none := modeArg_of_large hm
  simp only [repairRequestBody, hn]

theorem repairRequestBody_range {b hi lo m : Byte} (hm : m.toNat ≤ 1)
    (hl : 15 < b.toNat ∨ 65520 ≤ hi.toNat * 256 + lo.toNat) :
    repairRequestBody [b, hi, lo, m] s = (.refused .range, s) := by
  obtain ⟨x, hx⟩ := exists_modeArg_of_le hm
  have hx' : modeArg (arg [b, hi, lo, m] 3) = some x := hx
  simp only [repairRequestBody, hx', homeArgs_cons, homeArg_of_large hl]

/-- A received REPAIR_REQUEST that names a home row and a mode answers by checks 2 to 4 of Table 4-2. -/
theorem exec_repairRequest_sent {m : Mode} {r : Reply} {t : State} (hs : Heard s)
    (hb : repairRequest s h m = (r, t)) :
    exec (.repairRequest (h.bytes ++ [m.code])) s =
      .next (t.answer 10#8 (10#8 :: (h.bytes ++ [m.code])) r) := by
  have hm : modeArg (arg (h.bytes ++ [m.code]) 3) = some m := modeArg_code m
  exact exec_repairRequest hs rfl (by simpa only [repairRequestBody, hm, homeArgs_bytes] using hb)

section Request

variable {m : Mode}

theorem repairRequest_duplicate (hq : s.isQueued h = true) : repairRequest s h m = (.refused .duplicate, s) :=
  if_pos hq

variable (hq : s.isQueued h = false)
include hq

theorem repairRequest_state (hm : s.rowMigrating h = true) : repairRequest s h m = (.refused .state, s) := by
  simp [repairRequest, hq, hm]

theorem repairRequest_full (hm : s.rowMigrating h = false) (hl : 8 ≤ s.mge.queue.length) :
    repairRequest s h m = (.refused .full, s) := by
  have hc : Config.queueCapacity ≤ s.mge.queue.length := hl
  simp [repairRequest, hq, hm, hc]

theorem repairRequest_appends (hm : s.rowMigrating h = false) (hl : s.mge.queue.length < 8) :
    repairRequest s h m =
      (.done [byte s.mge.queue.length, byte (s.mge.queue.length + 1)],
        { s with mge := { s.mge with queue := s.mge.queue ++ [⟨h, m, .request⟩] } }) := by
  have hc : ¬ Config.queueCapacity ≤ s.mge.queue.length := Nat.not_le.mpr hl
  simp only [repairRequest, hq, hm, if_neg hc]
  rfl

end Request

/-! ### QUEUE_READ (R70) -/

theorem exec_queueRead (hs : Heard s) :
    exec (.queueRead []) s =
      .next (s.answer 12#8 [12#8] (.done (byte s.mge.queue.length :: s.mge.queue.flatMap queuePayload))) :=
  congrArg Host.Outcome.next (runAction_eq (a := .queueRead) (body := queueReadBody) hs rfl rfl)

/-! ### REPAIR_CANCEL (R69) -/

theorem exec_repairCancel {args : List Byte} {r : Reply} {t : State} (hs : Heard s) (hl : args.length = 3)
    (hb : repairCancelBody args s = (r, t)) :
    exec (.repairCancel args) s = .next (t.answer 11#8 (11#8 :: args) r) :=
  congrArg Host.Outcome.next (runAction_eq (a := .repairCancel) hs hl hb)

theorem repairCancelBody_range {b hi lo : Byte} (hl : 15 < b.toNat ∨ 65520 ≤ hi.toNat * 256 + lo.toNat) :
    repairCancelBody [b, hi, lo] s = (.refused .range, s) := by
  simp only [repairCancelBody, homeArgs_cons, homeArg_of_large hl]

/-- A received REPAIR_CANCEL that names a home row answers by the cases of R69. -/
theorem exec_repairCancel_sent {r : Reply} {t : State} (hs : Heard s) (hb : repairCancel s h = (r, t)) :
    exec (.repairCancel h.bytes) s = .next (t.answer 11#8 (11#8 :: h.bytes) r) := by
  have ha : homeArgs h.bytes = some h := homeArgs_bytes h []
  exact exec_repairCancel hs rfl (by simpa only [repairCancelBody, ha] using hb)

/-- The one request of a home row leaves the queue, the others keep their order. -/
theorem repairCancel_queued {front back : List RepairRequest} {q : RepairRequest}
    (hq : s.mge.queue = front ++ q :: back) (hh : q.home = h) (ho : ∀ x ∈ front ++ back, x.home ≠ h) :
    repairCancel s h =
      (.done [0#8, byte h.bank.val, byte (h.row.val / 256), byte h.row.val, q.mode.code, q.origin.code,
          byte front.length],
        { s with mge := { s.mge with queue := front ++ back } }) := by
  subst hh
  have hfront : ∀ x ∈ front, ¬ (x.home == q.home) = true := fun x hx => by
    simpa using ho x (List.mem_append_left _ hx)
  have hfind : s.mge.queue.find? (fun x => x.home == q.home) = some q := by
    simp [hq, List.find?_eq_none.mpr hfront]
  have hidx : s.mge.queue.findIdx (fun x => x.home == q.home) = front.length := by
    have hf : front.findIdx (fun x => x.home == q.home) = front.length :=
      List.findIdx_eq_length_of_false fun x hx => Bool.eq_false_iff.mpr (hfront x hx)
    simp [hq, List.findIdx_append, hf, List.findIdx_cons]
  have hrest : s.mge.queue.filter (fun x => x.home != q.home) = front ++ back := by
    have hk : (front ++ back).filter (fun x => x.home != q.home) = front ++ back :=
      List.filter_eq_self.mpr fun x hx => by simpa using ho x hx
    rw [hq, ← hk]
    simp
  simp only [repairCancel, hfind, hidx, hrest]
  rfl

section NotQueued

variable (hq : ∀ q ∈ s.mge.queue, q.home ≠ h)
include hq

theorem find_queue_eq_none : s.mge.queue.find? (fun x => x.home == h) = none :=
  List.find?_eq_none.mpr fun x hx => by simpa using hq x hx

theorem repairCancel_notFound (hc : ∀ c, s.mge.ctx = some c → c.home ≠ h) :
    repairCancel s h = (.refused .notFound, s) := by
  cases hx : s.mge.ctx with
  | none => simp only [repairCancel, find_queue_eq_none hq, hx]
  | some c => simp only [repairCancel, find_queue_eq_none hq, hx, if_neg (hc c hx)]

theorem repairCancel_aborts {c : MigContext} (hc : s.mge.ctx = some c) (hh : c.home = h) :
    repairCancel s h =
      (.done [1#8, byte h.bank.val, byte (h.row.val / 256), byte h.row.val, c.mode.code, c.origin.code, 255#8],
        s.abortMigration .abortedCancelled false) := by
  simp only [repairCancel, find_queue_eq_none hq, hc, if_pos hh]
  rfl

end NotQueued

/-- Settles O48: the answer of each action's body, check by check, under the frame that is received. -/
theorem repairRequestsAreQueued : Obligations.RepairRequestsAreQueued := by
  unfold Obligations.RepairRequestsAreQueued
  refine ⟨fun s hs => ⟨fun b hi lo m hm => exec_repairRequest hs rfl (repairRequestBody_badArg hm),
      fun b hi lo m hm hl => exec_repairRequest hs rfl (repairRequestBody_range hm hl), ?_, exec_queueRead hs⟩,
    fun s hs => ⟨fun b hi lo hl => exec_repairCancel hs rfl (repairCancelBody_range hl),
      fun h front q back hq hh ho => exec_repairCancel_sent hs (repairCancel_queued hq hh ho),
      fun h hq hc => exec_repairCancel_sent hs (repairCancel_notFound hq hc)⟩⟩
  rintro h m _ rfl
  refine ⟨fun hq => exec_repairRequest_sent hs (repairRequest_duplicate (isQueued_iff.mpr hq)), fun hq => ?_⟩
  have hq' := isQueued_eq_false_iff.mpr hq
  exact ⟨fun hm => exec_repairRequest_sent hs (repairRequest_state hq' hm),
    fun hm hl => exec_repairRequest_sent hs (repairRequest_full hq' hm hl),
    fun hm hl => exec_repairRequest_sent hs (repairRequest_appends hq' hm hl)⟩

/-! ### COMMIT and DISCARD (R84) -/

theorem exec_commit {args : List Byte} {r : Reply} {t : State} (hs : Heard s) (hl : args.length = 3)
    (hb : commitBody args s = (r, t)) :
    exec (.commit args) s = .next (t.answer 13#8 (13#8 :: args) r) :=
  congrArg Host.Outcome.next (runAction_eq (a := .commit) hs hl hb)

theorem exec_discard {args : List Byte} {r : Reply} {t : State} (hs : Heard s) (hl : args.length = 3)
    (hb : discardBody args s = (r, t)) :
    exec (.discard args) s = .next (t.answer 14#8 (14#8 :: args) r) :=
  congrArg Host.Outcome.next (runAction_eq (a := .discard) hs hl hb)

theorem commitBody_range {b hi lo : Byte} (hl : 15 < b.toNat ∨ 65520 ≤ hi.toNat * 256 + lo.toNat) :
    commitBody [b, hi, lo] s = (.refused .range, s) := by
  simp only [commitBody, homeArgs_cons, homeArg_of_large hl]

theorem discardBody_range {b hi lo : Byte} (hl : 15 < b.toNat ∨ 65520 ≤ hi.toNat * 256 + lo.toNat) :
    discardBody [b, hi, lo] s = (.refused .range, s) := by
  simp only [discardBody, homeArgs_cons, homeArg_of_large hl]

/-- A received COMMIT that names a home row settles that row. -/
theorem exec_commit_sent {r : Reply} {t : State} (hs : Heard s) (hb : commitRow s h = (r, t)) :
    exec (.commit h.bytes) s = .next (t.answer 13#8 (13#8 :: h.bytes) r) := by
  have ha : homeArgs h.bytes = some h := homeArgs_bytes h []
  exact exec_commit hs rfl (by simpa only [commitBody, ha] using hb)

/-- A received DISCARD that names a home row settles that row. -/
theorem exec_discard_sent {r : Reply} {t : State} (hs : Heard s) (hb : discardRow s h = (r, t)) :
    exec (.discard h.bytes) s = .next (t.answer 14#8 (14#8 :: h.bytes) r) := by
  have ha : homeArgs h.bytes = some h := homeArgs_bytes h []
  exact exec_discard hs rfl (by simpa only [discardBody, ha] using hb)

theorem heldSlot_eq_none (hn : ∀ e cur nx, s.entryOf h = some e → e.st ≠ .held cur nx) :
    s.heldSlot h = none := by
  unfold State.heldSlot
  cases hs : s.slotOf h with
  | none => rfl
  | some i =>
    rw [Option.bind_some]
    cases he : s.rmt[i] with
    | none => rfl
    | some e =>
      cases hst : e.st with
      | held cur nx => exact absurd hst (hn e cur nx ((entryOf_of_slotOf hs).trans he))
      | moving cur nx => simp only [Option.map_some, hst]
      | active c => simp only [Option.map_some, hst]

theorem commitRow_refused (hn : s.heldSlot h = none) : commitRow s h = (.refused .state, s) := by
  simp only [commitRow, hn]

theorem discardRow_refused (hn : s.heldSlot h = none) : discardRow s h = (.refused .state, s) := by
  simp only [discardRow, hn]

section Held

variable {i : Fin 128} {cur : Option (Fin 16)} {nx : Fin 16} (hs : s.slotOf h = some i)
  (hi : s.rmt[i] = some ⟨h, .held cur nx⟩)
include hs hi

theorem heldSlot_eq : s.heldSlot h = some (i, nx) := by
  simp only [State.heldSlot, hs, Option.bind_some, hi, Option.map_some]

theorem commitRow_done :
    commitRow s h =
      (.done [byte i.val, byte h.bank.val, byte (h.row.val / 256), byte h.row.val, 3#8, byte nx.val, 255#8],
        { s with
          rmt := s.rmt.set i (some ⟨h, .active nx⟩), spl := (s.retireOld h.bank cur).spl
          emn := { s.emn with suspects := s.emn.suspects.filter fun r => r.home ≠ h }
          mge := { s.mge with last := some (settledOutcome h .committed nx) }
          counters := (s.bump .migrationsCommitted).counters }) := by
  have hr : (s.rmt.set i (some ⟨h, .active nx⟩))[i] = some (RemapEntry.mk h (.active nx)) := by simp
  simp only [commitRow, heldSlot_eq hs hi, commitSlot_eq hi rfl, State.entryPayload, State.putLast_frame,
    State.bump_frame, hr]
  rfl

theorem discardRow_done :
    discardRow s h =
      (.done [byte i.val, byte h.bank.val, byte (h.row.val / 256), byte h.row.val, byte nx.val,
          if cur = none then 0#8 else 3#8, spareByte cur],
        { s with
          rmt := s.rmt.set i (cur.map fun x => ⟨h, .active x⟩)
          spl := { spares := s.spl.spares.set h.bank ((s.spl.spares[h.bank]).set nx .free)
                   changed := s.spl.changed.set h.bank true }
          emn := { s.emn with
                   suspects := s.emn.suspects.map fun r =>
                     if r.home = h then { r with pinned := false } else r }
          mge := { s.mge with last := some (settledOutcome h .abortedCancelled nx) }
          counters := (s.bump .migrationsAborted).counters }) := by
  have hr : (s.rmt.set i (cur.map fun x => ⟨h, .active x⟩))[i] =
      cur.map fun x => RemapEntry.mk h (.active x) := by
    simp
  simp only [discardRow, heldSlot_eq hs hi, rollbackSlot_eq hi rfl, State.afterRollback, State.putLast_frame,
    State.bump_frame, hr]
  cases cur <;> rfl

end Held

/-- Settles O50: a row without a HELD entry is refused, and a HELD one is committed or rolled back. -/
theorem heldRowsAreSettled : Obligations.HeldRowsAreSettled := by
  unfold Obligations.HeldRowsAreSettled
  refine ⟨fun s hs => ⟨fun b hi lo hl => exec_commit hs rfl (commitBody_range hl),
      fun h hn => exec_commit_sent hs (commitRow_refused (heldSlot_eq_none hn)), fun h i cur nx hsl hi => ?_⟩,
    fun s hs => ⟨fun b hi lo hl => exec_discard hs rfl (discardBody_range hl),
      fun h hn => exec_discard_sent hs (discardRow_refused (heldSlot_eq_none hn)), fun h i cur nx hsl hi =>
        ⟨_, exec_discard_sent hs (discardRow_done hsl hi), rfl, counted_bump s .migrationsAborted⟩⟩⟩
  refine ⟨_, exec_commit_sent hs (commitRow_done hsl hi), rfl, counted_bump s .migrationsCommitted, ?_, ?_⟩
  · rintro rfl
    rfl
  · rintro x rfl
    rfl

/-! ### ABORT (R86) -/

theorem exec_abort {r : Reply} {t : State} (hs : Heard s) (hb : abortBody s = (r, t)) :
    exec (.abort []) s = .next (t.answer 15#8 [15#8] r) :=
  congrArg Host.Outcome.next (runAction_eq (a := .abort) (body := abortBody) hs rfl hb)

theorem abortBody_refused (hc : s.mge.ctx = none) : abortBody s = (.refused .state, s) := by
  simp only [abortBody, hc]

theorem abortBody_done {c : MigContext} (hc : s.mge.ctx = some c) :
    abortBody s =
      (.done [byte c.home.bank.val, byte (c.home.row.val / 256), byte c.home.row.val, byte c.target.val,
          byte c.cursor.val],
        s.abortMigration .abortedCancelled false) := by
  simp only [abortBody, hc]
  rfl

/-- Settles O51: both actions make the same abort, which R85 describes. -/
theorem abortRollsBackTheMigration : Obligations.AbortRollsBackTheMigration := by
  unfold Obligations.AbortRollsBackTheMigration
  refine fun s hs => ⟨fun hc => exec_abort hs (abortBody_refused hc), fun c cur hc hi => ?_⟩
  refine ⟨s.abortMigration .abortedCancelled false, exec_abort hs (abortBody_done hc),
    fun hq => exec_repairCancel_sent hs (repairCancel_aborts hq hc rfl), ?_, ?_⟩
  · rw [abortMigration_eq hc hi, Bool.or_false]
    rfl
  · rw [abortMigration_eq hc hi]
    exact counted_bump s .migrationsAborted

end Sys2Proof.Proofs
end

section
/-! SUPPORT. The writes of the setting items (R52, R114 to R116, R152, R157, R161, R172), and the statement
O57. -/

namespace Sys2Proof.Proofs

open Sys2Proof Sys2Proof.Machine Sys2Proof.Claims

variable {s u : State} {v : Word32}

/-! ### Profile fields (R113, Table 6-1) -/

theorem fieldInRange_iff {f : ProfileField} {n : Nat} :
    fieldInRange f n = true ↔ fieldMin f ≤ n ∧ n ≤ fieldMax f := by
  simp [fieldInRange]

theorem bne_zero_toNat_of_le_one {n : Nat} (hn : n ≤ 1) : (n != 0).toNat = n := by
  interval_cases n <;> rfl

theorem mode_code_toNat_of_le_one {n : Nat} (hn : n ≤ 1) :
    (if n = 0 then Mode.autoCommit else Mode.hold).code.toNat = n := by
  interval_cases n <;> rfl

/-- A field set to a value of its range reads that value: the range of a flag or a mode is 0 and 1. -/
theorem get_put_same (p : Profile) {f : ProfileField} {n : Nat} (hn : n ≤ fieldMax f) : (p.put f n).get f = n := by
  cases f with
  | autoRepair | scrubWriteback => exact bne_zero_toNat_of_le_one hn
  | commitMode => exact mode_code_toNat_of_le_one hn
  | ceThreshold | retryLimit | scrubInterval | decayInterval | spareWatermark | starvationLimit => rfl

theorem get_put_other (p : Profile) {f g : ProfileField} (n : Nat) (hg : g ≠ f) : (p.put f n).get g = p.get g := by
  cases f <;> cases g
  case ceThreshold.ceThreshold | autoRepair.autoRepair | commitMode.commitMode | retryLimit.retryLimit |
      scrubInterval.scrubInterval | scrubWriteback.scrubWriteback | decayInterval.decayInterval |
      spareWatermark.spareWatermark | starvationLimit.starvationLimit => exact absurd rfl hg
  all_goals rfl

/-! ### The decay timer (R52) -/

theorem retimeDecay_eq (s : State) (old : Nat) :
    s.retimeDecay old = { s with emn := { s.emn with decay := (s.retimeDecay old).emn.decay } } := by
  unfold State.retimeDecay
  split <;> rfl

theorem retimeDecay_decay (s : State) (old : Nat) :
    (s.retimeDecay old).emn.decay =
      if s.operating.decayInterval = old then s.emn.decay else decayTimer s.operating.decayInterval := by
  unfold State.retimeDecay
  split <;> rfl

/-! ### A write of OPSEL (R114) -/

@[simp] theorem writeOpsel_prf (s : State) (i : Fin 2) : (s.writeOpsel i).prf = { s.prf with opsel := i } := by
  simp [State.writeOpsel]

theorem writeOpsel_eq (s : State) (i : Fin 2) :
    s.writeOpsel i =
      { s with prf := { s.prf with opsel := i }, emn := { s.emn with decay := (s.writeOpsel i).emn.decay } } :=
  retimeDecay_eq (s.setPrf { s.prf with opsel := i }) _

theorem writeOpsel_decay (s : State) (i : Fin 2) :
    (s.writeOpsel i).emn.decay =
      if (s.writeOpsel i).operating.decayInterval = s.operating.decayInterval then s.emn.decay
      else decayTimer (s.writeOpsel i).operating.decayInterval := by
  rw [State.operating_congr (t := s.setPrf { s.prf with opsel := i }) (writeOpsel_prf s i)]
  exact retimeDecay_decay _ _

/-! ### A write of a field of the profile WRSEL names (R115, R116) -/

@[simp] theorem writeField_prf (s : State) (f : ProfileField) (n : Nat) :
    (s.writeField f n).prf = { s.prf with profiles := s.prf.profiles.set s.prf.wrsel (s.written.put f n) } := by
  simp [State.writeField]

theorem writeField_eq (s : State) (f : ProfileField) (n : Nat) :
    s.writeField f n =
      { s with prf := { s.prf with profiles := (s.writeField f n).prf.profiles }
               emn := { s.emn with decay := (s.writeField f n).emn.decay } } := by
  rw [writeField_prf]
  exact retimeDecay_eq (s.setPrf _) _

theorem get_writeField {f : ProfileField} {n : Nat} (hn : n ≤ fieldMax f) (i : Fin 2) (g : ProfileField) :
    ((s.writeField f n).prf.profiles[i]).get g =
      if i = s.prf.wrsel ∧ g = f then n else (s.prf.profiles[i]).get g := by
  by_cases hi : i = s.prf.wrsel
  · subst hi
    by_cases hg : g = f
    · subst hg
      simp [get_put_same _ hn]
    · simp [hg, get_put_other _ n hg, State.written]
  · have hv : ¬ s.prf.wrsel.val = i.val := fun e => hi (Fin.ext e.symm)
    simp [hi, hv]

/-- The operating decay_interval follows a write of that field where WRSEL and OPSEL name one profile. -/
theorem operating_writeField_decayInterval {f : ProfileField} {n : Nat} (hn : n ≤ fieldMax f) :
    (s.writeField f n).operating.decayInterval =
      if f = .decayInterval ∧ s.prf.wrsel = s.prf.opsel then n else s.operating.decayInterval := by
  have ho : (s.writeField f n).operating = (s.writeField f n).prf.profiles[s.prf.opsel] := by
    simp [State.operating]
  have hg := get_writeField (s := s) hn s.prf.opsel .decayInterval
  simp only [eq_comm (a := s.prf.opsel), eq_comm (b := f), and_comm (b := f = _)] at hg
  rw [ho]
  exact hg

theorem writeField_decay {f : ProfileField} {n : Nat} (hn : n ≤ fieldMax f) :
    (s.writeField f n).emn.decay =
      if f = .decayInterval ∧ s.prf.wrsel = s.prf.opsel ∧ n ≠ s.operating.decayInterval then decayTimer n
      else s.emn.decay := by
  have hd : (s.writeField f n).emn.decay =
      if (s.writeField f n).operating.decayInterval = s.operating.decayInterval then s.emn.decay
      else decayTimer (s.writeField f n).operating.decayInterval := by
    rw [State.operating_congr (t := s.setPrf _) (writeField_prf s f n)]
    exact retimeDecay_decay _ _
  rw [hd, operating_writeField_decayInterval hn]
  by_cases hf : f = .decayInterval ∧ s.prf.wrsel = s.prf.opsel
  · obtain ⟨hf, hw⟩ := hf
    by_cases ho : n = s.operating.decayInterval <;> simp [hf, hw, ho]
  · rw [if_neg hf, if_pos rfl, if_neg fun ⟨hf', hw, _⟩ => hf ⟨hf', hw⟩]

/-! ### A write of ALERT_ENABLE (R157, R161) -/

/-- A capture stands where the new set names its cause. -/
theorem writeEnable_eq (s : State) (e : BitVec 6) :
    s.writeEnable e =
      { s with alc := { s.alc with enable := e, capture := s.alc.capture.filter fun c => e.getLsbD c.bit } } := by
  unfold State.writeEnable AlertController.keepCapture
  cases hc : s.alc.capture with
  | none => simp [State.setAlc, hc]
  | some c => by_cases he : e.getLsbD c.bit = true <;> simp [State.setAlc, Option.filter, hc, he]

theorem cause_bit_lt (c : Cause) : c.bit < 6 := by
  cases c <;> decide

theorem getLsbD_truncate_bit (v : Word32) (c : Cause) : (v.truncate 6).getLsbD c.bit = v.getLsbD c.bit := by
  simp [cause_bit_lt c]

theorem zeroExtend_truncate (hv : v.toNat < 64) : (v.truncate 6).zeroExtend 32 = v := by
  bv_omega

/-! ### The frame of a write (R172) -/

/-- The item holds the value that an accepted write of it carries. -/
theorem itemValue_of_writeValue {it : Item} (hw : s.writeValue it v = some u) : u.itemValue it = v := by
  cases it with
  | stateItem _ | counter _ => cases hw
  | field f =>
    obtain ⟨hr, ⟨⟩⟩ := Option.ite_none_right_eq_some.mp hw
    simp [State.itemValue, State.written, get_put_same _ (fieldInRange_iff.mp hr).2]
  | opsel =>
    obtain ⟨hr, ⟨⟩⟩ := Option.ite_none_right_eq_some.mp hw
    simp [State.itemValue, Nat.mod_eq_of_lt hr]
  | wrsel =>
    obtain ⟨hr, ⟨⟩⟩ := Option.ite_none_right_eq_some.mp hw
    simp [State.itemValue, State.writeWrsel, Nat.mod_eq_of_lt hr]
  | alertEnable =>
    obtain ⟨hr, ⟨⟩⟩ := Option.ite_none_right_eq_some.mp hw
    rw [writeEnable_eq]
    exact zeroExtend_truncate hr
  | dlinkTimeout =>
    obtain ⟨-, ⟨⟩⟩ := Option.ite_none_right_eq_some.mp hw
    simp [State.itemValue, State.writeTimeout]

/-- A received frame that carries a value out of the item's range. -/
theorem writeFrame_refused {number : Byte} {it : Item} (hs : Heard s) (hit : it.readOnly = false)
    (hw : s.writeValue it v = none) :
    s.writeFrame number it v = s.answer 26#8 (26#8 :: number :: be32 v) .badArg :=
  runAction_eq (a := .itemWrite) hs rfl (by simp [writeItem, hit, hw])

theorem readOnly_of_writeValue {it : Item} (hw : s.writeValue it v = some u) : it.readOnly = false := by
  cases it with
  | stateItem _ | counter _ => cases hw
  | field _ | opsel | wrsel | alertEnable | dlinkTimeout => rfl

/-- A received frame that carries a value of the item's range. -/
theorem writeFrame_accepted {number : Byte} {it : Item} (hs : Heard s) (hw : s.writeValue it v = some u) :
    s.writeFrame number it v = u.answer 26#8 (26#8 :: number :: be32 v) (.done (number :: be32 v)) :=
  runAction_eq (a := .itemWrite) hs rfl
    (by simp [writeItem, readOnly_of_writeValue hw, hw, itemValue_of_writeValue hw])

/-! ### The values that a write accepts -/

theorem writeValue_field {f : ProfileField} (hl : fieldMin f ≤ v.toNat) (hu : v.toNat ≤ fieldMax f) :
    s.writeValue (.field f) v = some (s.writeField f v.toNat) :=
  if_pos (fieldInRange_iff.mpr ⟨hl, hu⟩)

theorem writeValue_field_outside {f : ProfileField} (h : v.toNat < fieldMin f ∨ fieldMax f < v.toNat) :
    s.writeValue (.field f) v = none :=
  if_neg fun hr => by
    obtain ⟨hl, hu⟩ := fieldInRange_iff.mp hr
    omega

section Selectors

variable {i : Fin 2} (hi : v.toNat = i.val)
include hi

theorem writeValue_opsel : s.writeValue .opsel v = some (s.writeOpsel i) := by
  simp [State.writeValue, hi, Nat.lt_succ_iff.mp i.isLt]

theorem writeValue_wrsel : s.writeValue .wrsel v = some (s.writeWrsel i) := by
  simp [State.writeValue, hi, Nat.lt_succ_iff.mp i.isLt]

end Selectors

theorem writeValue_alertEnable (h : v.toNat < 64) :
    s.writeValue .alertEnable v =
      some { s with alc := { s.alc with
                             enable := BitVec.ofNat 6 v.toNat
                             capture := s.alc.capture.filter fun c => v.getLsbD c.bit } } := by
  have hw : s.writeValue .alertEnable v = some (s.writeEnable (v.truncate 6)) := if_pos h
  simp only [hw, writeEnable_eq, getLsbD_truncate_bit, BitVec.ofNat_toNat, BitVec.truncate_eq_setWidth]

/-- Settles O57: each write answers by the range of its item, and an accepted one leaves the state of its
item's lemma above. -/
theorem settingWritesTakeEffect : Obligations.SettingWritesTakeEffect := by
  unfold Obligations.SettingWritesTakeEffect
  refine ⟨fun s v f hs => ⟨fun hv => ⟨?_, ?_⟩, fun hv => ?_, fun i hi => ⟨?_, ?_⟩, fun hl hu => ?_⟩,
    fun s v hs => ⟨fun hv => ?_, fun hv => ?_, fun hv => ?_, fun hl hu => ?_⟩⟩
  · exact congrArg Host.Outcome.next (writeFrame_refused hs rfl (if_neg (Nat.not_lt.mpr hv)))
  · exact congrArg Host.Outcome.next (writeFrame_refused hs rfl (if_neg (Nat.not_lt.mpr hv)))
  · exact congrArg Host.Outcome.next (writeFrame_refused hs rfl (writeValue_field_outside hv))
  · exact congrArg Host.Outcome.next (writeFrame_accepted hs (writeValue_wrsel hi))
  · exact ⟨s.writeOpsel i, congrArg Host.Outcome.next (writeFrame_accepted hs (writeValue_opsel hi)),
      writeOpsel_eq s i, writeOpsel_decay s i⟩
  · exact ⟨s.writeField f v.toNat, congrArg Host.Outcome.next (writeFrame_accepted hs (writeValue_field hl hu)),
      writeField_eq s f v.toNat, get_writeField hu, writeField_decay hu⟩
  · exact congrArg Host.Outcome.next (writeFrame_refused hs rfl (if_neg (Nat.not_lt.mpr hv)))
  · have hw := writeFrame_accepted (number := 18#8) hs (writeValue_alertEnable hv)
    cases hc : s.alc.capture with
    | none | some _ =>
      rw [hc] at hw
      exact congrArg Host.Outcome.next hw
  · exact congrArg Host.Outcome.next (writeFrame_refused hs rfl (if_neg (by omega)))
  · exact congrArg Host.Outcome.next (writeFrame_accepted hs (if_pos ⟨hl, hu⟩))

end Sys2Proof.Proofs
end

section
/-! SUPPORT. The acceptance of an upstream request that passes the protocol check (R125, R126, Tables 7-3 and
7-4), and the statement O25. -/

namespace Sys2Proof.Proofs

open Sys2Proof Sys2Proof.Machine Sys2Proof.Claims

variable {s : State} {msg : List Byte} {tag : Fin 64} {kind : ReqKind}

/-! ### The protocol check (R124) -/

theorem protocolCheck_of_passesProtocol (hp : PassesProtocol s msg tag kind) : s.protocolCheck msg = .none := by
  obtain ⟨-, -, hlink, hcredits, htag, hrecord, hkind⟩ := hp
  simp [State.protocolCheck, hlink, hcredits, htag, hrecord, hkind]

theorem exec_upstreamRequest_of_passesProtocol (hp : PassesProtocol s msg tag kind) :
    exec (.upstreamRequest msg) s = .next (s.accept tag kind msg) := by
  have hcheck := protocolCheck_of_passesProtocol hp
  obtain ⟨hreset, hpin, -, -, htag, -, hkind⟩ := hp
  have hreceive : s.receive msg = s.accept tag kind msg := by
    simp only [State.receive, hcheck, htag, hkind]
  rw [← hreceive]
  exact congrArg Host.Outcome.next (if_neg (by simp [hreset, hpin]))

/-! ### The answers of checks 2 to 5 (R125) -/

/-- The credit a request spends and the credit its response gives back cancel. -/
theorem answerNow_eq (hc : s.up.credits ≠ 0) (status : HostStatus) :
    s.answerNow tag status =
      { s with wires := { s.wires with upTx := s.wires.upTx ++ [[byte tag.val, status.code]] } } := by
  have hcancel : s.up.credits - 1 + 1 = s.up.credits := Nat.succ_pred hc
  simp only [State.answerNow, State.respond, State.setUp, State.setWires, responseBytes, hcancel]

theorem accept_gate_not_opened (hg : s.up.gate ≠ .opened) : s.accept tag kind msg = s.answerNow tag .refused :=
  if_pos hg

theorem accept_out_of_range (hg : s.up.gate = .opened) (ha : homeOfAddress (requestAddress msg) = none) :
    s.accept tag kind msg = s.answerNow tag .range := by
  simp [State.accept, hg, ha]

section InRange

variable {h : HomeRow} {k : Fin 32} (hg : s.up.gate = .opened)
  (ha : homeOfAddress (requestAddress msg) = some (h, k))
include hg ha

theorem accept_link_not_up (hl : s.dp.link ≠ .up) : s.accept tag kind msg = s.answerNow tag .failed := by
  simp [State.accept, hg, ha, hl]

theorem accept_empty_write (hl : s.dp.link = .up) (hk : kind = .write) (hm : requestMask msg = 0#64) :
    s.accept tag kind msg = s.answerNow tag .ok := by
  simp [State.accept, hg, ha, hl, hk, hm]

/-! ### The forwarding of check 6 (R126) -/

theorem accept_forwards (hl : s.dp.link = .up) (hm : kind = .write → requestMask msg ≠ 0#64) :
    s.accept tag kind msg = s.forwardRequest tag (.accepted kind h k msg) := by
  have hn : ¬ (kind = .write ∧ requestMask msg = 0#64) := fun ⟨hk, hzero⟩ => hm hk hzero
  simp [State.accept, hg, ha, hl, hn]

end InRange

/-! ### Tables 7-3 and 7-4 -/

/-- Settles O25: each of checks 2 to 5 answers with its own status, and check 6 forwards. -/
theorem requestAnsweredOrForwarded : Obligations.RequestAnsweredOrForwarded := by
  unfold Obligations.RequestAnsweredOrForwarded
  refine ⟨fun s msg tag kind code hp hcode => ?_, fun s msg tag kind h k hp hg hl ha hm => ?_⟩
  · have ⟨_, _, _, hcredits, _⟩ := hp
    have answered {status : HostStatus} (hs : s.accept tag kind msg = s.answerNow tag status) :=
      (exec_upstreamRequest_of_passesProtocol hp).trans
        (congrArg Host.Outcome.next (hs.trans (answerNow_eq hcredits status)))
    obtain ⟨rfl, hg⟩ | ⟨rfl, hg, ha⟩ | ⟨rfl, hg, ha, hl⟩ | ⟨rfl, hg, ha, hl, hk, hm⟩ := hcode
    · exact answered (accept_gate_not_opened hg)
    · exact answered (accept_out_of_range hg ha)
    · obtain ⟨⟨h, k⟩, ha⟩ := Option.ne_none_iff_exists'.mp ha
      exact answered (accept_link_not_up hg ha hl)
    · obtain ⟨⟨h, k⟩, ha⟩ := Option.ne_none_iff_exists'.mp ha
      exact answered (accept_empty_write hg ha hl hk hm)
  · exact (exec_upstreamRequest_of_passesProtocol hp).trans
      (congrArg Host.Outcome.next (accept_forwards hg ha hl hm))

end Sys2Proof.Proofs
end

section
/-! SUPPORT. The status actions (R91, R111, R151, R156, R161), COUNTER_CLEAR (R173) and RESET_REPORT (R176), and
the statement O54. -/

namespace Sys2Proof.Proofs

open Sys2Proof Sys2Proof.Machine Sys2Proof.Claims

variable {s : State}

/-! ### Clearing of a cause (R156, R161) -/

/-- A clearing action takes the cause away, and the capture where it names the cause. -/
theorem clearCause_eq (s : State) (c : Cause) :
    s.clearCause c =
      { s with
        alc := { s.alc.put c false with
                 capture := if s.alc.capture = some c then none else s.alc.capture } } := by
  have hcapture : (s.alc.put c false).capture = s.alc.capture := by cases c <;> rfl
  rw [State.clearCause, release_eq, hcapture]
  rfl

/-! ### LINK_STATUS, MIGRATION_STATUS and SCRUB_STATUS (R151, R91, R111) -/

theorem exec_linkStatus (hs : Heard s) :
    exec (.linkStatus []) s =
      .next ((s.clearCause .link).answer 23#8 [23#8]
        (.done [s.dp.link.code, s.dp.lastFault.code, flagByte s.pins.dpReady, s.up.link.code,
          s.up.lastError.code])) :=
  congrArg Host.Outcome.next (runAction_eq (a := .linkStatus) (body := linkStatusBody) hs rfl rfl)

theorem exec_migrationStatus (hs : Heard s) :
    exec (.migrationStatus []) s =
      .next ((s.clearCause .migration).answer 16#8 [16#8]
        (.done (contextPayload s.mge.ctx ++ outcomePayload s.mge.last))) :=
  congrArg Host.Outcome.next (runAction_eq (a := .migrationStatus) (body := migrationStatusBody) hs rfl rfl)

theorem exec_scrubStatus (hs : Heard s) :
    exec (.scrubStatus []) s =
      .next ((s.clearCause .scrubPass).answer 19#8 [19#8]
        (.done ([s.psc.state.code, scrubModeByte s.psc.state] ++ cursorBytes s.psc.cursor ++
          be32 (s.counter .scrubPasses) ++ [scrubPhaseByte s.psc.line]))) :=
  congrArg Host.Outcome.next (runAction_eq (a := .scrubStatus) (body := scrubStatusBody) hs rfl rfl)

theorem scrubModeByte_eq (st : ScrubState) :
    scrubModeByte st = match st with | .idle => 255#8 | .running m => m.code | .paused m => m.code := by
  cases st <;> rfl

theorem scrubPhaseByte_eq (line : Option ScrubLine) :
    scrubPhaseByte line = match line with | some l => l.phase.code | none => 255#8 := by
  cases line <;> rfl

/-! ### COUNTER_CLEAR and RESET_REPORT (R173, R176) -/

theorem exec_counterClear (hs : Heard s) :
    exec (.counterClear []) s =
      .next (State.answer { s with counters := Vector.replicate 16 0#32 } 27#8 [27#8]
        (.done (s.counters.toList.flatMap be32))) :=
  congrArg Host.Outcome.next (runAction_eq (a := .counterClear) (body := counterClearBody) hs rfl rfl)

theorem exec_resetReport (hs : Heard s) :
    exec (.resetReport []) s = .next (s.answer 28#8 [28#8] (.done [s.rst.last.code, 8#8, 168#8, 1#8])) :=
  congrArg Host.Outcome.next (runAction_eq (a := .resetReport) (body := resetReportBody) hs rfl rfl)

theorem length_flatMap_be32 (l : List Word32) : (l.flatMap be32).length = 4 * l.length := by
  induction l with
  | nil => rfl
  | cons w rest ih =>
    rw [List.flatMap_cons, List.length_append, ih, List.length_cons, Nat.mul_succ, Nat.add_comm]
    rfl

/-- In a list of 32-bit values sent one after the other, the value at place `i` stands in the bytes from `4 * i`. -/
theorem flatMap_be32_at (l : List Word32) (i : Nat) (hi : i < l.length) :
    ((l.flatMap be32).drop (4 * i)).take 4 = be32 l[i] := by
  induction l generalizing i with
  | nil => exact absurd hi (Nat.not_lt_zero i)
  | cons w rest ih =>
    cases i with
    | zero => rfl
    | succ j => exact ih j (Nat.lt_of_succ_lt_succ hi)

/-- R173: the payload of COUNTER_CLEAR holds each counter at its place in Table 10-4. -/
theorem counterPayload_at (s : State) (k : Counter) :
    ((s.counters.toList.flatMap be32).drop (4 * k.index.val)).take 4 = be32 (s.counter k) := by
  have hk : k.index.val < s.counters.toList.length := by simp
  rw [flatMap_be32_at _ _ hk]
  simp [State.counter]

/-- Settles O54: each status action answers its payload and then clears its cause, and the payload of
COUNTER_CLEAR is read counter by counter. -/
theorem statusActionsReportAndClear : Obligations.StatusActionsReportAndClear := by
  unfold Obligations.StatusActionsReportAndClear
  refine ⟨fun s hs => ⟨?_, ?_, ?_⟩, fun s hs => ⟨⟨_, exec_counterClear hs, ?_, counterPayload_at s⟩,
    exec_resetReport hs⟩⟩
  · rw [exec_linkStatus hs, clearCause_eq]
    rfl
  · rw [exec_migrationStatus hs, clearCause_eq]
    rfl
  · rw [exec_scrubStatus hs, clearCause_eq, scrubModeByte_eq, scrubPhaseByte_eq]
    rfl
  · rw [length_flatMap_be32, Vector.length_toList]

end Sys2Proof.Proofs
end

section
/-! SUPPORT. The priority order of the causes (R159), the pending set as a byte (R180), ALERT_IDENTIFY with its
capture step (R159), the level of ALERT_n (R158), and the statement O55. -/

namespace Sys2Proof.Proofs

open Sys2Proof Sys2Proof.Machine Sys2Proof.Claims

variable {s : State}

/-! ### The list of the causes (Table 9-1) -/

/-- A cause stands in the list at the place of its bit. -/
theorem causes_getElem?_bit (c : Cause) : Cause.all[c.bit]? = some c := by
  cases c <;> rfl

theorem mem_causes (c : Cause) : c ∈ Cause.all :=
  List.mem_of_getElem? (causes_getElem?_bit c)

/-- The order of priority is the order of the bits of Table 11-8a. -/
theorem pairwise_causes_bit : Cause.all.Pairwise fun a b => a.bit < b.bit := by
  decide

theorem cause_bit_injective {a b : Cause} (h : a.bit = b.bit) : a = b := by
  rw [← Option.some_inj, ← causes_getElem?_bit a, h, causes_getElem?_bit b]

/-! ### The enabled pending cause of highest priority (R159) -/

theorem topCause_eq_none_iff :
    s.topCause = none ↔ ∀ c : Cause, ¬(s.isPending c = true ∧ s.isEnabled c = true) := by
  simp [State.topCause, List.find?_eq_none, mem_causes]

theorem enabled_pending_of_topCause {c : Cause} (h : s.topCause = some c) :
    s.isPending c = true ∧ s.isEnabled c = true := by
  simpa using List.find?_some h

/-- The causes before the one that the search finds were passed over, and every later one has a higher bit. -/
theorem none_above_topCause {c d : Cause} (h : s.topCause = some c) (hd : d.bit < c.bit) :
    ¬(s.isPending d = true ∧ s.isEnabled d = true) := by
  obtain ⟨-, front, back, hsplit, hfront⟩ := List.find?_eq_some_iff_append.mp h
  have hsorted : (front ++ c :: back).Pairwise fun a b => a.bit < b.bit := hsplit ▸ pairwise_causes_bit
  obtain ⟨-, hback, -⟩ := List.pairwise_append.mp hsorted
  have hmem : d ∈ front ++ c :: back := hsplit ▸ mem_causes d
  obtain hd_front | hd_back := List.mem_append.mp hmem
  · rintro ⟨hpending, henabled⟩
    simpa [hpending, henabled] using hfront d hd_front
  · obtain rfl | hlater := List.mem_cons.mp hd_back
    · exact absurd hd (lt_irrefl _)
    · exact absurd hd (List.rel_of_pairwise_cons hback hlater).not_gt

/-- R158: ALERT_n is low while an enabled cause is pending, and only then. -/
theorem alertN_eq_false_iff :
    s.alertN = false ↔ ∃ c : Cause, s.isPending c = true ∧ s.isEnabled c = true := by
  rw [State.alertN, Option.isNone_eq_false_iff, Option.isSome_iff_ne_none, Ne, topCause_eq_none_iff]
  exact not_forall_not

/-! ### The pending set as a byte (R180) -/

/-- Weights added in ascending order never carry: each falls above all that is there. -/
theorem testBit_sum_weights {l : List Cause} {acc : Nat} (hl : l.Pairwise fun a b => a.bit < b.bit)
    (hacc : ∀ c ∈ l, acc < 2 ^ c.bit) (i : Nat) :
    (l.foldl (fun acc c => acc + 2 ^ c.bit) acc).testBit i = true ↔
      acc.testBit i = true ∨ ∃ c ∈ l, c.bit = i := by
  induction l generalizing acc with
  | nil => simp
  | cons c rest ih =>
    obtain ⟨habove, hrest⟩ := List.pairwise_cons.mp hl
    have hlow : acc < 2 ^ c.bit := hacc c (List.mem_cons_self ..)
    have hnext : ∀ d ∈ rest, acc + 2 ^ c.bit < 2 ^ d.bit := fun d hd =>
      calc acc + 2 ^ c.bit < 2 ^ (c.bit + 1) := by omega
        _ ≤ 2 ^ d.bit := Nat.pow_le_pow_right two_pos (habove d hd)
    have hor : acc + 2 ^ c.bit = acc ||| 2 ^ c.bit := by
      simpa [Nat.add_comm, Nat.lor_comm] using Nat.two_pow_add_eq_or_of_lt hlow 1
    rw [List.foldl_cons, ih hrest hnext, hor, Nat.testBit_or, Nat.testBit_two_pow]
    simp [or_assoc]

theorem getLsbD_pendingByte_iff (i : Nat) :
    s.pendingByte.getLsbD i = true ↔ ∃ c : Cause, s.isPending c = true ∧ c.bit = i := by
  have hsum := testBit_sum_weights (acc := 0) (pairwise_causes_bit.filter s.isPending)
    (fun _ _ => Nat.two_pow_pos _) i
  have hbound : (∃ c : Cause, s.isPending c = true ∧ c.bit = i) → i < 8 := by
    rintro ⟨c, -, rfl⟩
    exact (cause_bit_lt c).trans (by decide)
  rw [State.pendingByte, byte, BitVec.getLsbD_ofNat, Bool.and_eq_true, decide_eq_true_iff, hsum]
  simpa [mem_causes] using hbound

theorem getLsbD_pendingByte_bit (c : Cause) : s.pendingByte.getLsbD c.bit = s.isPending c := by
  rw [Bool.eq_iff_iff, getLsbD_pendingByte_iff]
  constructor
  · rintro ⟨d, hd, hbit⟩
    exact cause_bit_injective hbit ▸ hd
  · exact fun h => ⟨c, h, rfl⟩

theorem pendingByte_toNat_lt : s.pendingByte.toNat < 64 := by
  refine Nat.lt_pow_two_of_testBit (n := 6) _ fun i hi => ?_
  rw [BitVec.testBit_toNat, Bool.eq_false_iff, Ne, getLsbD_pendingByte_iff]
  rintro ⟨c, -, rfl⟩
  exact absurd (cause_bit_lt c) hi.not_gt

/-! ### ALERT_IDENTIFY (R159) -/

/-- The capture step: a standing capture stands, otherwise the top cause is taken. -/
theorem capture_eq (s : State) :
    s.capture = { s with alc := { s.alc with capture := s.alc.capture.or s.topCause } } := by
  cases hc : s.alc.capture with
  | none =>
    simp only [State.capture, hc]
    rfl
  | some c =>
    simp only [State.capture, hc, Option.some_or]
    rw [← hc]

theorem alertIdentifyBody_eq (s : State) :
    alertIdentifyBody s =
      (.done [captureByte (s.alc.capture.or s.topCause), s.pendingByte, s.alc.enable.zeroExtend 8],
        { s with alc := { s.alc with capture := s.alc.capture.or s.topCause } }) := by
  rw [alertIdentifyBody, capture_eq]
  rfl

theorem exec_alertIdentify (hs : Heard s) :
    exec (.alertIdentify []) s =
      .next (State.answer { s with alc := { s.alc with capture := s.alc.capture.or s.topCause } } 24#8 [24#8]
        (.done [captureByte (s.alc.capture.or s.topCause), s.pendingByte, s.alc.enable.zeroExtend 8])) :=
  congrArg Host.Outcome.next
    (runAction_eq (a := .alertIdentify) (body := alertIdentifyBody) hs rfl (alertIdentifyBody_eq s))

/-- Settles O55: the answer is that of the capture step, read by its bits and by the order of priority. -/
theorem alertIdentifyCaptures : Obligations.AlertIdentifyCaptures := by
  unfold Obligations.AlertIdentifyCaptures
  refine ⟨fun s hs => ⟨s.alc.capture.or s.topCause, s.pendingByte, exec_alertIdentify hs,
    getLsbD_pendingByte_bit, pendingByte_toNat_lt,
    fun hc => Option.or_of_isSome (Option.isSome_iff_ne_none.mpr hc), fun hc => ?_⟩,
    fun s => alertN_eq_false_iff⟩
  rw [hc, Option.none_or]
  refine ⟨fun c h => ?_, topCause_eq_none_iff.mp⟩
  obtain ⟨hpending, henabled⟩ := enabled_pending_of_topCause h
  exact ⟨hpending, henabled, fun _ => none_above_topCause h⟩

end Sys2Proof.Proofs
end

section
/-! SUPPORT. What a command can do: one inversion of `exec`, from which every invariant over all commands is
derived. -/

namespace Sys2Proof.Proofs

open Sys2Proof Sys2Proof.Machine Sys2Proof.Claims

/-- What a fall of UP_RST_n leaves (R134). -/
def upstreamReset (s : State) : State :=
  ((s.setPins { s.pins with upRstN := false }).setUp
    { s.up with
      link := .down
      credits := 0
      hrt := Vector.ofFn fun t => orphanRecord s.up.forward t s.up.hrt[t]
      forward := [] }).putFifo (s.dp.fifo.map (orphanEntry s.up.forward))

/-- DP_REQ_READY at the level that the line controller drives after a grant (log entry 6). -/
def afterGrant (s : State) (ready : Bool) : State := s.setPins { s.pins with dpReqReady := ready }

/-- The conditions of a start of migration (R18, R72): the slot is that of the row's ACTIVE entry, or an empty one
where the row has no entry. -/
def StartsIn (s : State) (h : HomeRow) (i : Fin 128) (cur : Option (Fin 16)) : Prop :=
  (cur = none ∧ s.slotOf h = none ∧ s.rmt[i] = none) ∨
    ∃ x, cur = some x ∧ s.slotOf h = some i ∧ s.rmt[i] = some ⟨h, .active x⟩

/-- The commands that start a reset (R174, R175, R176). -/
def startsReset : Instr → Bool
  | .powerOnReset | .rstNFall | .deviceReset _ => true
  | _ => false

/-- What a command does to the state, the management port and the record of what was sent apart: one case per
outcome, with the conditions under which `exec` takes it. -/
inductive Effect (s : State) : Instr → State → Prop
  | none (c : Instr) : Effect s c s
  -- the upstream port
  | protocolError (msg : List Byte) (e : ProtocolError) (force : s.rst.force = .none) :
      Effect s (.upstreamRequest msg) (s.protocolError e)
  | answerNow (msg : List Byte) (tag : Fin 64) (status : HostStatus) (credits : s.up.credits ≠ 0) :
      Effect s (.upstreamRequest msg) (s.answerNow tag status)
  | forwardRequest (msg : List Byte) (tag : Fin 64) (kind : ReqKind) (h : HomeRow) (line : Fin 32)
      (link : s.up.link = .up) (credits : s.up.credits ≠ 0) (record : s.record tag = .none)
      (gate : s.up.gate = .opened) :
      Effect s (.upstreamRequest msg) (s.forwardRequest tag (.accepted kind h line msg))
  | upstreamReset : Effect s .upstreamLinkReset (upstreamReset s)
  | upRelease : Effect s .upRstNRelease (s.setPins { s.pins with upRstN := true }).upstreamEntry
  | upstreamEntry : Effect s .upstreamLinkUp s.upstreamEntry
  | drainCheck : Effect s .drainEnd s.drainCheck
  | gateOpen (args : List Byte) : Effect s (.gateOpen args) (s.setUp { s.up with gate := .opened })
  | gateDrain (args : List Byte) :
      Effect s (.gateDrain args) (s.setUp { s.up with gate := if s.hrtEmpty then .closed else .draining })
  -- grants
  | hostGrant (ready : Bool) (link : s.dp.link = .up) :
      Effect s (.arbiterGrant ready) (afterGrant (s.hostGrant.putStarvation s.starvationAfterHost) ready)
  | copyReadIssue (ready : Bool) (c : MigContext) (link : s.dp.link = .up) (ctx : s.mge.ctx = some c)
      (phase : c.phase = .wait) (fifo : s.dp.fifo.any FifoEntry.isCopy = false) (awaited : c.awaited = .copyRead) :
      Effect s (.arbiterGrant ready) (afterGrant ((s.copyReadIssue c).putStarvation 0) ready)
  | copyWithdrawn (ready : Bool) (c : MigContext) (link : s.dp.link = .up) (ctx : s.mge.ctx = some c)
      (phase : c.phase = .wait) (awaited : c.awaited = .copyWrite) (overtaken : c.overtaken = true) :
      Effect s (.arbiterGrant ready) (afterGrant ((s.retryDecision c.withdrawn).putStarvation 0) ready)
  | copyWriteIssue (ready : Bool) (c : MigContext) (link : s.dp.link = .up) (ctx : s.mge.ctx = some c)
      (phase : c.phase = .wait) (fifo : s.dp.fifo.any FifoEntry.isCopy = false) (awaited : c.awaited = .copyWrite)
      (overtaken : c.overtaken = false) :
      Effect s (.arbiterGrant ready) (afterGrant ((s.copyWriteIssue c).putStarvation 0) ready)
  | scrubReadGrant (ready : Bool) (l : ScrubLine) (link : s.dp.link = .up) (line : s.psc.line = some l)
      (phase : l.phase = .awaitRead) (fifo : s.dp.fifo.any FifoEntry.isScrub = false) :
      Effect s (.arbiterGrant ready) (afterGrant ((s.scrubReadGrant l).putStarvation 0) ready)
  | scrubWritebackGrant (ready : Bool) (l : ScrubLine) (link : s.dp.link = .up) (line : s.psc.line = some l)
      (phase : l.phase = .awaitWriteback) (fifo : s.dp.fifo.any FifoEntry.isScrub = false) :
      Effect s (.arbiterGrant ready) (afterGrant ((s.scrubWritebackGrant l).putStarvation 0) ready)
  -- answers
  | hostAnswer (msg : List Byte) (e : FifoEntry) (rest : List FifoEntry) (tag : Fin 64) (leg : Leg)
      (st : AnswerStatus) (data : List Byte) (link : s.dp.link = .up) (fifo : s.dp.fifo = e :: rest)
      (owner : e.owner = .host tag leg) (orphan : e.orphan = false) :
      Effect s (.downstreamAnswer msg) (((s.popFifo rest).hostAnswer tag st data).attributeHost e.home st)
  | orphanAnswer (msg : List Byte) (e : FifoEntry) (rest : List FifoEntry) (tag : Fin 64) (leg : Leg)
      (st : AnswerStatus) (link : s.dp.link = .up) (fifo : s.dp.fifo = e :: rest)
      (owner : e.owner = .host tag leg) (orphan : e.orphan = true) :
      Effect s (.downstreamAnswer msg) (((s.popFifo rest).orphanAnswer tag).attributeHost e.home st)
  | absorbed (msg : List Byte) (e : FifoEntry) (rest : List FifoEntry) (link : s.dp.link = .up)
      (fifo : s.dp.fifo = e :: rest) (owner : e.owner = .copy ∨ e.owner = .scrub) :
      Effect s (.downstreamAnswer msg) (s.popFifo rest)
  | copyReadAnswer (msg : List Byte) (e : FifoEntry) (rest : List FifoEntry) (c : MigContext) (st : AnswerStatus)
      (data : List Byte) (link : s.dp.link = .up) (fifo : s.dp.fifo = e :: rest) (owner : e.owner = .copy)
      (ctx : s.mge.ctx = some c) (phase : c.phase = .reading) :
      Effect s (.downstreamAnswer msg) ((s.popFifo rest).copyReadAnswer c e st data)
  | endOfCopy (msg : List Byte) (e : FifoEntry) (rest : List FifoEntry) (c : MigContext) (link : s.dp.link = .up)
      (fifo : s.dp.fifo = e :: rest) (owner : e.owner = .copy) (ctx : s.mge.ctx = some c)
      (phase : c.phase = .writing) :
      Effect s (.downstreamAnswer msg) ((s.popFifo rest).endOfCopy c)
  | scrubAttributed (msg : List Byte) (e : FifoEntry) (rest : List FifoEntry) (st : AnswerStatus)
      (link : s.dp.link = .up) (fifo : s.dp.fifo = e :: rest) (owner : e.owner = .scrub) :
      Effect s (.downstreamAnswer msg) ((s.popFifo rest).attributeScrub e.home e.line st)
  | scrubReadAnswer (msg : List Byte) (e : FifoEntry) (rest : List FifoEntry) (l : ScrubLine) (st : AnswerStatus)
      (data : List Byte) (link : s.dp.link = .up) (fifo : s.dp.fifo = e :: rest) (owner : e.owner = .scrub)
      (line : s.psc.line = some l) (phase : l.phase = .reading) :
      Effect s (.downstreamAnswer msg)
        (((s.popFifo rest).attributeScrub e.home e.line st).scrubReadAnswer l st data)
  | scrubWritten (msg : List Byte) (e : FifoEntry) (rest : List FifoEntry) (l : ScrubLine)
      (link : s.dp.link = .up) (fifo : s.dp.fifo = e :: rest) (owner : e.owner = .scrub)
      (line : s.psc.line = some l) (phase : l.phase = .writingBack) :
      Effect s (.downstreamAnswer msg) (s.popFifo rest).endLine
  -- the downstream link
  | fault (c : Instr) (reason : FaultReason) (link : s.dp.link = .up) : Effect s c (s.enterFault reason)
  | notReady (link : s.dp.link = .up) :
      Effect s .dpReadyFall ((s.setPins { s.pins with dpReady := false }).enterFault .notReady)
  | dpReadyFall : Effect s .dpReadyFall (s.setPins { s.pins with dpReady := false })
  | dpReadyRise : Effect s .dpReadyRise (s.setPins { s.pins with dpReady := true }).downstreamEntry
  | releasePulse (force : s.rst.force = .none) : Effect s .dpRstPulseEnd s.releasePulse
  | downstreamEntry : Effect s .downstreamLinkUp s.downstreamEntry
  | dpReqReady (level : Bool) : Effect s (.dpReqReadyRise level) (s.setPins { s.pins with dpReqReady := level })
  | recover (args : List Byte) (link : s.dp.link = .fault) :
      Effect s (.recover args) (s.setDp { s.dp with link := .retrain, pulse := startTimer Config.pulseLength })
  -- the migration engine
  | startFailure (q : RepairRequest) (rest : List RepairRequest) (o : MigOutcome) (queue : s.mge.queue = q :: rest) :
      Effect s .migrationStart ((s.putQueue rest).startFailure q o)
  | beginMigration (q : RepairRequest) (rest : List RepairRequest) (i : Fin 128) (cur : Option (Fin 16))
      (nx : Fin 16) (queue : s.mge.queue = q :: rest) (ctx : s.mge.ctx = .none) (starts : StartsIn s q.home i cur)
      (free : s.spare q.home.bank nx = .free) :
      Effect s .migrationStart ((s.putQueue rest).beginMigration q i cur nx)
  | repairRequest (args : List Byte) (h : HomeRow) (m : Mode) (queued : s.isQueued h = false)
      (row : s.rowMigrating h = false) (room : s.mge.queue.length < 8) :
      Effect s (.repairRequest args) (s.putQueue (s.mge.queue ++ [⟨h, m, .request⟩]))
  | repairCancel (args : List Byte) (h : HomeRow) :
      Effect s (.repairCancel args) (s.putQueue (s.mge.queue.filter fun q => q.home != h))
  | abort (c : Instr) : Effect s c (s.abortMigration .abortedCancelled false)
  | commit (args : List Byte) (i : Fin 128) (e : RemapEntry) (cur : Option (Fin 16)) (nx : Fin 16)
      (o : LastOutcome) (entry : s.rmt[i] = some e) (held : e.st = .held cur nx) :
      Effect s (.commit args) (((s.commitSlot i).bump .migrationsCommitted).putLast o)
  | discard (args : List Byte) (i : Fin 128) (e : RemapEntry) (cur : Option (Fin 16)) (nx : Fin 16)
      (o : LastOutcome) (entry : s.rmt[i] = some e) (held : e.st = .held cur nx) :
      Effect s (.discard args) (((s.rollbackSlot i).bump .migrationsAborted).putLast o)
  -- the remap table and the spare pool
  | remapLoad (args : List Byte) (h : HomeRow) (sp : Fin 16) (i : Fin 128) (ctx : s.mge.ctx = .none)
      (slot : s.slotOf h = .none) (free : s.spare h.bank sp = .free) (empty : s.rmt[i] = .none) :
      Effect s (.remapLoad args) ((s.putSlot i (some ⟨h, .active sp⟩)).putSpare h.bank sp .assigned)
  | spareStatus (args : List Byte) :
      Effect s (.spareStatus args)
        ((s.setSpl { s.spl with changed := Vector.replicate 16 false }).clearCause .spareLow)
  | spareRetire (args : List Byte) (b i : Fin 16) (free : s.spare b i = .free) :
      Effect s (.spareRetire args) (s.putSpare b i .retired)
  -- the error monitor
  | decayExpiry :
      Effect s .decayExpiry
        (s.putSuspects ((s.emn.suspects.map SuspectRecord.decay).filter SuspectRecord.stays)).startDecay
  | suspectClear (args : List Byte) (h : HomeRow) : Effect s (.suspectClear args) (s.dropSuspect h)
  | lossRead (args : List Byte) (r : LossRecord) (rest : List LossRecord) (losses : s.emn.losses = r :: rest) :
      Effect s (.lossRead args)
        { s with
          emn := { s.emn with losses := rest }
          alc := { s.alc with
                   capture := if rest = [] ∧ s.alc.capture = some Cause.dataLoss then .none
                              else s.alc.capture } }
  -- the scrubber
  | scrubInterval (due : isDue s.psc.timer = true) :
      Effect s .scrubIntervalExpiry (s.setPsc { s.psc with timer := startTimer s.operating.scrubInterval })
  | scrubBegin (due : isDue s.psc.timer = true) (line : s.psc.line = .none) :
      Effect s .scrubIntervalExpiry
        (State.beginScrubLine 129 (s.setPsc { s.psc with timer := startTimer s.operating.scrubInterval }))
  | scrubRun (args : List Byte) (cursor : Fin 33546240) (m : ScrubMode) (idle : s.psc.state = .idle)
      (link : s.dp.link = .up) :
      Effect s (.scrubStart args) ((s.setPsc { s.psc with cursor := cursor }).runScrubber m)
  | scrubPause (args : List Byte) (cursor : Fin 33546240) (m : ScrubMode) (idle : s.psc.state = .idle) :
      Effect s (.scrubStart args) (s.setPsc { s.psc with cursor := cursor, state := .paused m })
  | scrubStop (args : List Byte) :
      Effect s (.scrubStop args)
        ((s.setPsc { s.psc with state := .idle, timer := .none, line := .none }).putFifo
          (orphanScrubs s.dp.fifo)).settleStarvation
  -- alerts, items and counters
  | clearCause (c : Instr) (k : Cause) (other : k ≠ .dataLoss) : Effect s c (s.clearCause k)
  | capture (args : List Byte) : Effect s (.alertIdentify args) s.capture
  | writeField (c : Instr) (f : ProfileField) (n : Nat) (frame : isFrameEnd c = true)
      (range : fieldInRange f n = true) : Effect s c (s.writeField f n)
  | writeOpsel (c : Instr) (i : Fin 2) (frame : isFrameEnd c = true) : Effect s c (s.writeOpsel i)
  | writeWrsel (c : Instr) (i : Fin 2) (frame : isFrameEnd c = true) : Effect s c (s.writeWrsel i)
  | writeEnable (c : Instr) (e : BitVec 6) (frame : isFrameEnd c = true) : Effect s c (s.writeEnable e)
  | writeTimeout (c : Instr) (n : Nat) (frame : isFrameEnd c = true) : Effect s c (s.writeTimeout n)
  | frameError (event : FrameEvent) : Effect s (.mgmtFrameError event) (s.bump .mgmtFrameErrors)
  | counterClear (args : List Byte) :
      Effect s (.counterClear args) (s.setCounters (Vector.replicate 16 0#32))
  -- resets
  | powerOn : Effect s .powerOnReset s.powerOnValues
  | powerOnEnd (rise : Bool) :
      Effect s (.powerOnResetEnd rise) ((s.rstRise rise).setRst { s.rst with supplies := true }).releaseReset
  | deviceReset (c : Instr) (p : Pins) (m : ManagementPort) (w : Wires) (kind : ResetKind)
      (hold : Option Interval) (force : s.rst.force = .none) (source : startsReset c = true) :
      Effect s c (State.deviceResetValues { s with pins := p, mgp := m, wires := w } kind hold)
  | rstNFall (force : s.rst.force ≠ .none) : Effect s .rstNFall (s.setPins { s.pins with rstN := false })
  | deviceEnd (rise : Bool) : Effect s (.deviceResetEnd rise) (s.rstRise rise).releaseReset

/-- What a command leaves in the management port, beside its effect `u`: a frame's effect comes with its result, and
none comes with a frame that is not received (R165, R167). -/
inductive FrameStep (s : State) (c : Instr) (u : State) : ManagementPort → Prop
  /-- The port as the effect leaves it. -/
  | kept (heard : isFrameEnd c = false ∨ s.hears = true) : FrameStep s c u u.mgp
  /-- A frame ends that is not received, or that has no bit. -/
  | ended (idle : u = s) : FrameStep s c u { s.mgp with frame := .idle }
  /-- A frame begins. -/
  | begun (idle : u = s) : FrameStep s c u s.beginFrame.mgp
  /-- A frame is received. -/
  | taken (m : ManagementPort) (heard : s.hears = true) (frame : m.frame = .idle)
      (source : startsReset c = false ∨ u = s) : FrameStep s c u m

/-- The state `t` is what a command can make of `s`, whatever the record of what was sent holds. -/
def Reaches (s : State) (c : Instr) (t : State) : Prop :=
  ∃ u m w, Effect s c u ∧ FrameStep s c u m ∧ t = { u with mgp := m, wires := w }

variable {s t : State} {c : Instr} {args : List Byte}

theorem Effect.reaches (e : Effect s c t) (heard : isFrameEnd c = false ∨ s.hears = true) : Reaches s c t :=
  ⟨t, t.mgp, t.wires, e, .kept heard, rfl⟩

theorem reaches_self (frame : isFrameEnd c = false) : Reaches s c s := (Effect.none c).reaches (.inl frame)

theorem reaches_endFrame : Reaches s c s.endFrame := ⟨s, _, _, .none c, .ended rfl, rfl⟩

theorem Effect.answered (e : Effect s c t) (heard : s.hears = true) (source : startsReset c = false ∨ t = s)
    (code : Byte) (sent : List Byte) (r : Reply) : Reaches s c (t.answer code sent r) :=
  ⟨t, _, _, e, .taken _ heard rfl source, rfl⟩

/-- A COMMAND frame does to the device what its action's body does, or nothing (R165, R167). -/
theorem reaches_runAction {a : Action} {body : State → Reply × State} (source : startsReset c = false)
    (hb : Effect s c (body s).2) : Reaches s c (s.runAction a args body) := by
  unfold State.runAction
  split
  next hh =>
    split
    · exact hb.answered hh (.inl source) ..
    · exact (Effect.none c).answered hh (.inr rfl) ..
  · exact reaches_endFrame

/-! ### The upstream port -/

theorem effect_accept {msg : List Byte} {tag : Fin 64} {kind : ReqKind} (hl : s.up.link = .up)
    (hc : s.up.credits ≠ 0) (hr : s.record tag = none) :
    Effect s (.upstreamRequest msg) (s.accept tag kind msg) := by
  unfold State.accept
  split
  · exact .answerNow _ _ _ hc
  next hg =>
    split
    · exact .answerNow _ _ _ hc
    · split
      · exact .answerNow _ _ _ hc
      · split
        · exact .answerNow _ _ _ hc
        · exact .forwardRequest msg _ _ _ _ hl hc hr (not_not.mp hg)

/-- R124: a request whose tag passes the protocol check finds the link UP, a credit and no record of its tag. -/
theorem of_protocolCheck_none {msg : List Byte} {tag : Fin 64} (h : s.protocolCheck msg = .none)
    (ht : requestTag msg = some tag) : s.up.link = .up ∧ s.up.credits ≠ 0 ∧ s.record tag = none := by
  unfold State.protocolCheck at h
  split_ifs at h with hlink hcredits hrecord
  refine ⟨?_, hcredits, by simpa [ht] using hrecord⟩
  cases hl : s.up.link with
  | up => rfl
  | down => exact absurd hl hlink

theorem reaches_upstreamRequest (msg : List Byte) (s : State) :
    Reaches s (.upstreamRequest msg) (if s.inReset || !s.pins.upRstN then s else s.receive msg) := by
  split
  · exact reaches_self rfl
  next hup =>
    obtain ⟨hforce, -⟩ : s.rst.force = .none ∧ s.pins.upRstN = true := by simpa [State.inReset] using hup
    refine Effect.reaches ?_ (.inl rfl)
    unfold State.receive
    split
    next hcheck htag _ =>
      obtain ⟨hl, hc, hr⟩ := of_protocolCheck_none hcheck htag
      exact effect_accept hl hc hr
    · exact .protocolError _ _ hforce
    · exact .protocolError _ _ hforce

theorem effect_gateOpenBody (args : List Byte) (s : State) : Effect s (.gateOpen args) (gateOpenBody s).2 := by
  unfold gateOpenBody
  split
  · exact .none _
  · exact .gateOpen args

theorem effect_gateDrainBody (args : List Byte) (s : State) : Effect s (.gateDrain args) (gateDrainBody s).2 := by
  unfold gateDrainBody
  split
  · exact .none _
  · exact .gateDrain args

/-! ### Grants and answers -/

/-- R75: the migration engine presents in phase WAIT with no COPY entry in the FIFO. -/
theorem migPresents_iff :
    s.migPresents = true ↔
      (∃ c, s.mge.ctx = some c ∧ c.phase = .wait) ∧ s.dp.fifo.any FifoEntry.isCopy = false := by
  simp [State.migPresents, Option.any_eq_true]

/-- R100: the scrubber presents while a line awaits a request, with no SCRUB entry in the FIFO. -/
theorem scrubPresents_iff :
    s.scrubPresents = true ↔
      (∃ l, s.psc.line = some l ∧ (l.phase = .awaitRead ∨ l.phase = .awaitWriteback)) ∧
        s.dp.fifo.any FifoEntry.isScrub = false := by
  simp [State.scrubPresents, Option.any_eq_true]

/-- A requester that wins a grant presents. -/
theorem presents_of_winner {w : Requester} (h : s.winner = some w) :
    (w = .migration → s.migPresents = true) ∧ (w = .scrub → s.scrubPresents = true) := by
  unfold State.winner at h
  split_ifs at h <;> obtain rfl := Option.some.inj h <;> simp_all

theorem effect_migrationGrant (ready : Bool) (hl : s.dp.link = .up) (hp : s.migPresents = true) :
    Effect s (.arbiterGrant ready) (afterGrant (s.migrationGrant.putStarvation 0) ready) := by
  obtain ⟨⟨c, hc, hphase⟩, hfifo⟩ := migPresents_iff.mp hp
  simp only [State.migrationGrant, hc]
  split
  next ha => exact .copyReadIssue ready c hl hc hphase hfifo ha
  next ha =>
    split
    next ho => exact .copyWithdrawn ready c hl hc hphase ha ho
    next ho => exact .copyWriteIssue ready c hl hc hphase hfifo ha (Bool.not_eq_true _ ▸ ho)

theorem effect_scrubGrant (ready : Bool) (hl : s.dp.link = .up) (hp : s.scrubPresents = true) :
    Effect s (.arbiterGrant ready) (afterGrant (s.scrubGrant.putStarvation 0) ready) := by
  obtain ⟨⟨l, hline, hphase⟩, hfifo⟩ := scrubPresents_iff.mp hp
  simp only [State.scrubGrant, hline]
  rcases hphase with hphase | hphase
  · rw [hphase]
    exact .scrubReadGrant ready l hl hline hphase hfifo
  · rw [hphase]
    exact .scrubWritebackGrant ready l hl hline hphase hfifo

/-- The grant keeps every pin, so the level that follows it is written over the pins as they were. -/
theorem grant_pins (s : State) (w : Requester) : (s.grant w).pins = s.pins := by
  cases w <;> simp [State.grant]

theorem effect_arbiterGrant {w : Requester} (ready : Bool) (hl : s.dp.link = .up) (hw : s.winner = some w) :
    Effect s (.arbiterGrant ready) ((s.grant w).setPins { s.pins with dpReqReady := ready }) := by
  obtain ⟨hmig, hscrub⟩ := presents_of_winner hw
  rw [← grant_pins s w]
  cases w with
  | host => exact .hostGrant ready hl
  | migration => exact effect_migrationGrant ready hl (hmig rfl)
  | scrub => exact effect_scrubGrant ready hl (hscrub rfl)

theorem reaches_arbiterGrant (ready : Bool) (s : State) :
    Reaches s (.arbiterGrant ready)
      (if s.dp.link = .up ∧ s.pins.dpReqReady = true then
        match s.winner with
        | some w => (s.grant w).setPins { s.pins with dpReqReady := ready }
        | none => s
      else s) := by
  split
  next h =>
    split
    next hw => exact (effect_arbiterGrant ready h.1 hw).reaches (.inl rfl)
    · exact reaches_self rfl
  · exact reaches_self rfl

theorem effect_copyAnswer {msg : List Byte} {e : FifoEntry} {rest : List FifoEntry} (st : AnswerStatus)
    (data : List Byte) (hl : s.dp.link = .up) (hf : s.dp.fifo = e :: rest) (ho : e.owner = .copy) :
    Effect s (.downstreamAnswer msg) ((s.popFifo rest).copyAnswer e st data) := by
  have hpop := Effect.absorbed msg e rest hl hf (.inl ho)
  unfold State.copyAnswer
  split
  · exact hpop
  next c hc =>
    split
    next hp => exact .copyReadAnswer msg e rest c st data hl hf ho hc hp
    next hp => exact .endOfCopy msg e rest c hl hf ho hc hp
    · exact hpop

theorem effect_scrubAnswer {msg : List Byte} {e : FifoEntry} {rest : List FifoEntry} (st : AnswerStatus)
    (data : List Byte) (hl : s.dp.link = .up) (hf : s.dp.fifo = e :: rest) (ho : e.owner = .scrub) :
    Effect s (.downstreamAnswer msg) ((s.popFifo rest).scrubAnswer e st data) := by
  have hline : ((s.popFifo rest).attributeScrub e.home e.line st).psc.line = s.psc.line := by simp
  unfold State.scrubAnswer
  cases hk : e.kind with
  | read =>
    simp only [if_true, hline]
    split
    · exact .scrubAttributed msg e rest st hl hf ho
    next l hpsc =>
      split
      next hp => exact .scrubReadAnswer msg e rest l st data hl hf ho hpsc hp
      next hw _ => cases hw
      · exact .scrubAttributed msg e rest st hl hf ho
  | write =>
    simp only [reduceCtorEq, if_false]
    split
    · exact .absorbed msg e rest hl hf (.inr ho)
    next l hpsc =>
      split
      next hw _ => cases hw
      next hp => exact .scrubWritten msg e rest l hl hf ho hpsc hp
      · exact .absorbed msg e rest hl hf (.inr ho)

theorem effect_takeAnswer (msg : List Byte) (hl : s.dp.link = .up) :
    Effect s (.downstreamAnswer msg) (s.takeAnswer msg) := by
  unfold State.takeAnswer
  split
  · exact .fault _ _ hl
  next e rest hf =>
    split
    · exact .fault _ _ hl
    next st data _ =>
      unfold State.deliver
      split
      next ho hn => exact .hostAnswer msg e rest _ _ st data hl hf ho hn
      next ho hn => exact .orphanAnswer msg e rest _ _ st hl hf ho hn
      next ho _ => exact effect_copyAnswer st data hl hf ho
      next ho _ => exact .absorbed msg e rest hl hf (.inl ho)
      next ho _ => exact effect_scrubAnswer st data hl hf ho
      next ho _ => exact .absorbed msg e rest hl hf (.inr ho)

theorem reaches_downstreamAnswer (msg : List Byte) (s : State) :
    Reaches s (.downstreamAnswer msg) (if s.dp.link = .up then s.takeAnswer msg else s) := by
  split
  next hl => exact (effect_takeAnswer msg hl).reaches (.inl rfl)
  · exact reaches_self rfl

/-! ### The downstream link -/

theorem reaches_responseTimerExpiry (s : State) :
    Reaches s .responseTimerExpiry
      (if s.dp.link = .up ∧ isDue s.dp.timer = true then s.enterFault .timeout else s) := by
  split
  next h => exact (Effect.fault _ _ h.1).reaches (.inl rfl)
  · exact reaches_self rfl

theorem reaches_dpReadyFall (s : State) :
    Reaches s .dpReadyFall
      (if s.dp.link = .up then (s.setPins { s.pins with dpReady := false }).enterFault .notReady
      else s.setPins { s.pins with dpReady := false }) := by
  split
  next h => exact (Effect.notReady h).reaches (.inl rfl)
  · exact Effect.dpReadyFall.reaches (.inl rfl)

theorem reaches_dpRstPulseEnd (s : State) :
    Reaches s .dpRstPulseEnd (if !s.inReset && isDue s.dp.pulse then s.releasePulse else s) := by
  split
  next h =>
    have hforce : s.rst.force = .none := by simpa [State.inReset] using (Bool.and_eq_true_iff.mp h).1
    exact (Effect.releasePulse hforce).reaches (.inl rfl)
  · exact reaches_self rfl

theorem effect_recoverBody (args : List Byte) (s : State) : Effect s (.recover args) (recoverBody s).2 := by
  unfold recoverBody
  split
  next h => exact .recover args h
  · exact .none _

/-! ### The migration engine -/

theorem effect_startInSlot {q : RepairRequest} {rest : List RepairRequest} {i : Fin 128} {cur : Option (Fin 16)}
    (hq : s.mge.queue = q :: rest) (hc : s.mge.ctx = none) (hi : StartsIn s q.home i cur) :
    Effect s .migrationStart ((s.putQueue rest).startInSlot q i cur) := by
  unfold State.startInSlot
  split
  · exact .startFailure q rest _ hq
  next nx hnx =>
    have hfree : (s.putQueue rest).spare q.home.bank nx = .free := by simpa using List.find?_some hnx
    exact .beginMigration q rest i cur nx hq hc hi hfree

theorem reaches_startRequest {q : RepairRequest} {rest : List RepairRequest} (hq : s.mge.queue = q :: rest)
    (hc : s.mge.ctx = none) (h : (s.putQueue rest).startRequest q = .next t) : Reaches s .migrationStart t := by
  unfold State.startRequest at h
  split at h
  next hs =>
    split at h
    · exact Host.Outcome.next.inj h ▸ (Effect.startFailure q rest _ hq).reaches (.inl rfl)
    next i hi =>
      have hempty : s.rmt[i] = none := by simpa using List.find?_some hi
      exact Host.Outcome.next.inj h ▸ (effect_startInSlot hq hc (.inl ⟨rfl, hs, hempty⟩)).reaches (.inl rfl)
  next i hs =>
    split at h
    next x hx =>
      obtain ⟨⟨home, st⟩, he, rfl⟩ := Option.map_eq_some_iff.mp hx
      have hs' : s.slotOf q.home = some i := hs
      obtain rfl : home = q.home := home_of_slotOf hs' he
      exact Host.Outcome.next.inj h ▸ (effect_startInSlot hq hc (.inr ⟨x, rfl, hs', he⟩)).reaches (.inl rfl)
    · cases h

theorem reaches_migrationStart (h : execMigrationStart s = .next t) : Reaches s .migrationStart t := by
  unfold execMigrationStart at h
  split at h
  · exact Host.Outcome.next.inj h ▸ reaches_self rfl
  next q rest hq =>
    split at h
    next hc => exact reaches_startRequest hq hc.1 h
    · exact Host.Outcome.next.inj h ▸ reaches_self rfl

theorem effect_repairRequestBody (args : List Byte) (s : State) :
    Effect s (.repairRequest args) (repairRequestBody args s).2 := by
  unfold repairRequestBody
  split
  · exact .none _
  · split
    · exact .none _
    · unfold repairRequest
      split_ifs with hq hr hl
      · exact .none _
      · exact .none _
      · exact .none _
      · exact .repairRequest args _ _ (Bool.not_eq_true _ ▸ hq) (Bool.not_eq_true _ ▸ hr) (Nat.not_le.mp hl)

theorem effect_repairCancelBody (args : List Byte) (s : State) :
    Effect s (.repairCancel args) (repairCancelBody args s).2 := by
  unfold repairCancelBody
  split
  · exact .none _
  · unfold repairCancel
    split
    · exact .repairCancel args _
    · split
      · exact .none _
      · split
        · exact .abort _
        · exact .none _

theorem effect_abortBody (args : List Byte) (s : State) : Effect s (.abort args) (abortBody s).2 := by
  unfold abortBody
  split
  · exact .none _
  · exact .abort _

/-- R84: the slot that COMMIT and DISCARD settle holds a HELD entry. -/
theorem entry_of_heldSlot {h : HomeRow} {i : Fin 128} {nx : Fin 16} (hs : s.heldSlot h = some (i, nx)) :
    ∃ e cur, s.rmt[i] = some e ∧ e.st = .held cur nx := by
  obtain ⟨j, hj, hm⟩ := Option.bind_eq_some_iff.mp hs
  split at hm
  next cur nx' hst =>
    obtain ⟨e, he, hst'⟩ := Option.map_eq_some_iff.mp hst
    obtain ⟨rfl, rfl⟩ := Prod.mk.inj (Option.some.inj hm)
    exact ⟨e, cur, he, hst'⟩
  · cases hm

theorem effect_commitBody (args : List Byte) (s : State) : Effect s (.commit args) (commitBody args s).2 := by
  unfold commitBody
  split
  · exact .none _
  · unfold commitRow
    split
    · exact .none _
    next i nx hs =>
      obtain ⟨e, cur, he, hst⟩ := entry_of_heldSlot hs
      exact .commit args i e cur nx _ he hst

theorem effect_discardBody (args : List Byte) (s : State) : Effect s (.discard args) (discardBody args s).2 := by
  unfold discardBody
  split
  · exact .none _
  · unfold discardRow
    split
    · exact .none _
    next i nx hs =>
      obtain ⟨e, cur, he, hst⟩ := entry_of_heldSlot hs
      exact .discard args i e cur nx _ he hst

/-! ### The remap table, the spare pool and the error monitor -/

theorem effect_remapLoadBody (args : List Byte) (s : State) :
    Effect s (.remapLoad args) (remapLoadBody args s).2 := by
  unfold remapLoadBody
  split
  · unfold remapLoad
    split_ifs with hc hd hf
    · exact .none _
    · exact .none _
    · exact .none _
    · split
      · exact .none _
      next i hi =>
        have hctx : s.mge.ctx = none := by simpa using (not_or.mp hc).2
        have hempty : s.rmt[i] = none := by simpa using List.find?_some hi
        exact .remapLoad args _ _ i hctx (by simpa using hd) (not_not.mp hf) hempty
  · exact .none _

theorem effect_remapReadBody (args : List Byte) (s : State) :
    Effect s (.remapRead args) (remapReadBody args s).2 := by
  unfold remapReadBody
  split
  · exact .none _
  · split <;> exact .none _

theorem effect_remapFindBody (args : List Byte) (s : State) :
    Effect s (.remapFind args) (remapFindBody args s).2 := by
  unfold remapFindBody
  split
  · exact .none _
  · split <;> exact .none _

theorem effect_spareRetireBody (args : List Byte) (s : State) :
    Effect s (.spareRetire args) (spareRetireBody args s).2 := by
  unfold spareRetireBody
  split
  · unfold spareRetire
    split_ifs with hg hf
    · exact .none _
    · exact .none _
    · exact .spareRetire args _ _ (not_not.mp hf)
  · exact .none _

theorem effect_suspectReadBody (args : List Byte) (s : State) :
    Effect s (.suspectRead args) (suspectReadBody args s).2 := by
  unfold suspectReadBody
  split
  · exact .none _
  · split <;> exact .none _

theorem effect_suspectClearBody (args : List Byte) (s : State) :
    Effect s (.suspectClear args) (suspectClearBody args s).2 := by
  unfold suspectClearBody
  split
  · exact .none _
  · unfold suspectClear
    split
    · exact .none _
    · split
      · exact .none _
      · exact .suspectClear args _

theorem effect_lossReadBody (args : List Byte) (s : State) : Effect s (.lossRead args) (lossReadBody s).2 := by
  cases hl : s.emn.losses with
  | nil =>
    rw [lossReadBody_empty hl]
    exact .none _
  | cons r rest =>
    rw [lossReadBody_done hl]
    exact .lossRead args r rest hl

theorem reaches_decayExpiry (s : State) :
    Reaches s .decayExpiry
      (if isDue s.emn.decay then
        (s.putSuspects ((s.emn.suspects.map SuspectRecord.decay).filter SuspectRecord.stays)).startDecay
      else s) := by
  split
  · exact Effect.decayExpiry.reaches (.inl rfl)
  · exact reaches_self rfl

/-! ### The scrubber -/

theorem reaches_scrubIntervalExpiry (h : execScrubIntervalExpiry s = .next t) :
    Reaches s .scrubIntervalExpiry t := by
  obtain rfl := Host.Outcome.next.inj h
  split
  next hd =>
    dsimp only
    split
    · exact (Effect.scrubInterval hd).reaches (.inl rfl)
    next hl => exact (Effect.scrubBegin hd (by simpa using hl)).reaches (.inl rfl)
  · exact reaches_self rfl

theorem effect_scrubStartBody (args : List Byte) (s : State) :
    Effect s (.scrubStart args) (scrubStartBody args s).2 := by
  unfold scrubStartBody
  split
  next zero m _ _ =>
    unfold scrubStart
    split
    · exact .none _
    · exact .none _
    next hi =>
      have hcursor : ∃ cursor, (if zero then s.setPsc { s.psc with cursor := 0 } else s) =
          s.setPsc { s.psc with cursor := cursor } := by
        cases zero
        · exact ⟨s.psc.cursor, rfl⟩
        · exact ⟨0, rfl⟩
      obtain ⟨cursor, hcursor⟩ := hcursor
      simp only [hcursor]
      split
      next hl => exact .scrubRun args cursor m hi hl
      · exact .scrubPause args cursor m hi
  · exact .none _

theorem effect_scrubStopBody (args : List Byte) (s : State) :
    Effect s (.scrubStop args) (scrubStopBody s).2 := by
  unfold scrubStopBody
  split
  · exact .none _
  · exact .scrubStop args

/-! ### Items and frames -/

theorem effect_writeValue {it : Item} {v : Word32} {u : State} (hw : s.writeValue it v = some u)
    (hc : isFrameEnd c = true) : Effect s c u := by
  cases it with
  | stateItem _ | counter _ => cases hw
  | field f =>
    obtain ⟨hr, ⟨⟩⟩ := Option.ite_none_right_eq_some.mp hw
    exact .writeField c f _ hc hr
  | opsel =>
    obtain ⟨-, ⟨⟩⟩ := Option.ite_none_right_eq_some.mp hw
    exact .writeOpsel c _ hc
  | wrsel =>
    obtain ⟨-, ⟨⟩⟩ := Option.ite_none_right_eq_some.mp hw
    exact .writeWrsel c _ hc
  | alertEnable =>
    obtain ⟨-, ⟨⟩⟩ := Option.ite_none_right_eq_some.mp hw
    exact .writeEnable c _ hc
  | dlinkTimeout =>
    obtain ⟨-, ⟨⟩⟩ := Option.ite_none_right_eq_some.mp hw
    exact .writeTimeout c _ hc

theorem effect_writeItem (number : Byte) (it : Item) (v : Word32) (hc : isFrameEnd c = true) :
    Effect s c (writeItem s number it v).2 := by
  unfold writeItem
  split
  · exact .none _
  · split
    · exact .none _
    next hw => exact effect_writeValue hw hc

theorem effect_itemWriteBody (hc : isFrameEnd c = true) : Effect s c (itemWriteBody args s).2 := by
  unfold itemWriteBody
  split
  · exact .none _
  · exact effect_writeItem _ _ _ hc

theorem effect_itemReadBody : Effect s c (itemReadBody args s).2 := by
  unfold itemReadBody
  split <;> exact .none _

theorem reaches_writeFrame (number : Byte) (it : Item) (v : Word32) (hc : isFrameEnd c = true)
    (source : startsReset c = false) : Reaches s c (s.writeFrame number it v) :=
  reaches_runAction source (effect_writeItem number it v hc)

theorem reaches_resultFrame (n : Nat) (h : execResultFrame n s = .next t) : Reaches s (.resultFrame n) t := by
  obtain rfl := Host.Outcome.next.inj h
  split
  next h => exact ⟨s, _, _, .none _, .taken _ (Bool.and_eq_true_iff.mp h).1 rfl (.inr rfl), rfl⟩
  · exact reaches_endFrame

theorem beginFrame_eq (s : State) : s.beginFrame = { s with mgp := s.beginFrame.mgp } := by
  unfold State.beginFrame
  split <;> rfl

theorem reaches_mgmtFrameError {event : FrameEvent} (h : execMgmtFrameError event s = .next t) :
    Reaches s (.mgmtFrameError event) t := by
  cases event with
  | fall =>
    obtain rfl := Host.Outcome.next.inj h
    exact ⟨s, _, s.wires, .none _, .begun rfl, beginFrame_eq s⟩
  | rise bits =>
    simp only [execMgmtFrameError, State.discardFrame] at h
    split_ifs at h with hidle
    · exact Host.Outcome.next.inj h ▸ reaches_endFrame
    · obtain ⟨hh, -⟩ : s.hears = true ∧ bits ≠ [] := by simpa using hidle
      exact Host.Outcome.next.inj h ▸ ⟨_, _, _, .frameError _, .taken _ hh rfl (.inl rfl), rfl⟩

theorem reaches_unknownAction {code : Option Byte} (h : execUnknownAction code args s = .next t) :
    Reaches s (.unknownAction code args) t := by
  unfold execUnknownAction at h
  split at h
  · exact Host.Outcome.next.inj h ▸ reaches_endFrame
  next hh =>
    have hh : s.hears = true := by simpa using hh
    split at h
    · exact Host.Outcome.next.inj h ▸ (Effect.none _).answered hh (.inr rfl) ..
    · split at h
      · cases h
      · exact Host.Outcome.next.inj h ▸ (Effect.none _).answered hh (.inr rfl) ..

/-! ### Resets -/

theorem reaches_rstNFall (h : execRstNFall s = .next t) : Reaches s .rstNFall t := by
  obtain rfl := Host.Outcome.next.inj h
  split
  next hr => exact (Effect.rstNFall (by simpa [State.inReset] using hr)).reaches (.inl rfl)
  next hr =>
    have hforce : s.rst.force = .none := by simpa [State.inReset] using hr
    exact (Effect.deviceReset _ { s.pins with rstN := false } s.mgp s.wires .pin none hforce rfl).reaches (.inl rfl)

theorem force_of_hears (h : s.hears = true) : s.rst.force = .none := by
  simp only [State.hears, State.inReset, Bool.and_eq_true, Bool.not_eq_true', bne_eq_false_iff_eq] at h
  exact h.1

theorem reaches_deviceReset (h : execDeviceReset args s = .next t) : Reaches s (.deviceReset args) t := by
  obtain rfl := Host.Outcome.next.inj h
  split
  next hh =>
    split
    · exact (Effect.deviceReset _ s.pins _ _ .action _ (force_of_hears hh) rfl).reaches (.inr hh)
    · exact (Effect.none _).answered hh (.inr rfl) ..
  · exact reaches_endFrame

/-! ### Every command -/

/-- What a command does, in every state in which it completes. -/
theorem exec_reaches (h : exec c s = .next t) : Reaches s c t := by
  cases c with
  | upstreamRequest msg => exact Host.Outcome.next.inj h ▸ reaches_upstreamRequest msg s
  | upstreamLinkReset => exact Host.Outcome.next.inj h ▸ Effect.upstreamReset.reaches (.inl rfl)
  | upRstNRelease => exact Host.Outcome.next.inj h ▸ Effect.upRelease.reaches (.inl rfl)
  | upstreamLinkUp => exact Host.Outcome.next.inj h ▸ Effect.upstreamEntry.reaches (.inl rfl)
  | drainEnd => exact Host.Outcome.next.inj h ▸ Effect.drainCheck.reaches (.inl rfl)
  | arbiterGrant ready => exact Host.Outcome.next.inj h ▸ reaches_arbiterGrant ready s
  | downstreamAnswer msg => exact Host.Outcome.next.inj h ▸ reaches_downstreamAnswer msg s
  | responseTimerExpiry => exact Host.Outcome.next.inj h ▸ reaches_responseTimerExpiry s
  | dpReadyFall => exact Host.Outcome.next.inj h ▸ reaches_dpReadyFall s
  | dpReadyRise => exact Host.Outcome.next.inj h ▸ Effect.dpReadyRise.reaches (.inl rfl)
  | dpRstPulseEnd => exact Host.Outcome.next.inj h ▸ reaches_dpRstPulseEnd s
  | downstreamLinkUp => exact Host.Outcome.next.inj h ▸ Effect.downstreamEntry.reaches (.inl rfl)
  | dpReqReadyRise level => exact Host.Outcome.next.inj h ▸ (Effect.dpReqReady level).reaches (.inl rfl)
  | migrationStart => exact reaches_migrationStart h
  | scrubIntervalExpiry => exact reaches_scrubIntervalExpiry h
  | decayExpiry => exact Host.Outcome.next.inj h ▸ reaches_decayExpiry s
  | powerOnReset => exact Host.Outcome.next.inj h ▸ Effect.powerOn.reaches (.inl rfl)
  | powerOnResetEnd rise => exact Host.Outcome.next.inj h ▸ (Effect.powerOnEnd rise).reaches (.inl rfl)
  | rstNFall => exact reaches_rstNFall h
  | deviceResetEnd rise => exact Host.Outcome.next.inj h ▸ (Effect.deviceEnd rise).reaches (.inl rfl)
  | resultFrame n => exact reaches_resultFrame n h
  | mgmtFrameError event => exact reaches_mgmtFrameError h
  | unknownAction code args => exact reaches_unknownAction h
  | remapLoad args => exact Host.Outcome.next.inj h ▸ reaches_runAction rfl (effect_remapLoadBody args s)
  | remapRead args => exact Host.Outcome.next.inj h ▸ reaches_runAction rfl (effect_remapReadBody args s)
  | remapFind args => exact Host.Outcome.next.inj h ▸ reaches_runAction rfl (effect_remapFindBody args s)
  | spareStatus args => exact Host.Outcome.next.inj h ▸ reaches_runAction rfl (.spareStatus args)
  | spareRetire args => exact Host.Outcome.next.inj h ▸ reaches_runAction rfl (effect_spareRetireBody args s)
  | suspectRead args => exact Host.Outcome.next.inj h ▸ reaches_runAction rfl (effect_suspectReadBody args s)
  | suspectClear args => exact Host.Outcome.next.inj h ▸ reaches_runAction rfl (effect_suspectClearBody args s)
  | candidateList args => exact Host.Outcome.next.inj h ▸ reaches_runAction rfl (.clearCause _ .candidate (by decide))
  | lossRead args => exact Host.Outcome.next.inj h ▸ reaches_runAction rfl (effect_lossReadBody args s)
  | repairRequest args => exact Host.Outcome.next.inj h ▸ reaches_runAction rfl (effect_repairRequestBody args s)
  | repairCancel args => exact Host.Outcome.next.inj h ▸ reaches_runAction rfl (effect_repairCancelBody args s)
  | queueRead args => exact Host.Outcome.next.inj h ▸ reaches_runAction rfl (.none _)
  | commit args => exact Host.Outcome.next.inj h ▸ reaches_runAction rfl (effect_commitBody args s)
  | discard args => exact Host.Outcome.next.inj h ▸ reaches_runAction rfl (effect_discardBody args s)
  | abort args => exact Host.Outcome.next.inj h ▸ reaches_runAction rfl (effect_abortBody args s)
  | migrationStatus args =>
    exact Host.Outcome.next.inj h ▸ reaches_runAction rfl (.clearCause _ .migration (by decide))
  | scrubStart args => exact Host.Outcome.next.inj h ▸ reaches_runAction rfl (effect_scrubStartBody args s)
  | scrubStop args => exact Host.Outcome.next.inj h ▸ reaches_runAction rfl (effect_scrubStopBody args s)
  | scrubStatus args => exact Host.Outcome.next.inj h ▸ reaches_runAction rfl (.clearCause _ .scrubPass (by decide))
  | gateOpen args => exact Host.Outcome.next.inj h ▸ reaches_runAction rfl (effect_gateOpenBody args s)
  | gateDrain args => exact Host.Outcome.next.inj h ▸ reaches_runAction rfl (effect_gateDrainBody args s)
  | recover args => exact Host.Outcome.next.inj h ▸ reaches_runAction rfl (effect_recoverBody args s)
  | linkStatus args => exact Host.Outcome.next.inj h ▸ reaches_runAction rfl (.clearCause _ .link (by decide))
  | alertIdentify args => exact Host.Outcome.next.inj h ▸ reaches_runAction rfl (.capture args)
  | itemRead args => exact Host.Outcome.next.inj h ▸ reaches_runAction rfl effect_itemReadBody
  | itemWrite args => exact Host.Outcome.next.inj h ▸ reaches_runAction rfl (effect_itemWriteBody rfl)
  | opselWrite value => exact Host.Outcome.next.inj h ▸ reaches_writeFrame _ _ _ rfl rfl
  | wrselWrite value => exact Host.Outcome.next.inj h ▸ reaches_writeFrame _ _ _ rfl rfl
  | profileFieldWrite field value => exact Host.Outcome.next.inj h ▸ reaches_writeFrame _ _ _ rfl rfl
  | alertEnableWrite value => exact Host.Outcome.next.inj h ▸ reaches_writeFrame _ _ _ rfl rfl
  | dlinkTimeoutWrite value => exact Host.Outcome.next.inj h ▸ reaches_writeFrame _ _ _ rfl rfl
  | counterClear args => exact Host.Outcome.next.inj h ▸ reaches_runAction rfl (.counterClear args)
  | resetReport args => exact Host.Outcome.next.inj h ▸ reaches_runAction rfl (.none _)
  | deviceReset args => exact reaches_deviceReset h

/-! ### Invariants -/

/-- A relation that does not read the management port, the record of what was sent and the queue is kept by every
step where a tick and every effect keep it. -/
theorem keptByStep_of_effect {Inv : State → Prop}
    (hfree : ∀ u m w q, Inv u → Inv { u with mgp := m, wires := w, pending := q })
    (hadvance : ∀ s, Inv s → Inv s.advance) (heffect : ∀ s c u, Effect s c u → Inv s → Inv u) :
    KeptByStep Inv := by
  intro s t hs hstep
  unfold step at hstep
  split at hstep
  · exact Host.Outcome.next.inj hstep ▸ hfree _ _ _ _ (hadvance s hs)
  next c rest _ =>
    obtain ⟨u, m, w, he, -, rfl⟩ := exec_reaches hstep
    exact hfree u m w _ (heffect _ c u he (hfree s s.mgp s.wires rest hs))

end Sys2Proof.Proofs
end

section
/-! SUPPORT. The profiles stay in their ranges (R113), and the statement O5. -/

namespace Sys2Proof.Proofs

open Sys2Proof Sys2Proof.Machine Sys2Proof.Claims

variable {s u : State} {c : Instr}

theorem profilesInRange_congr (e : u.prf.profiles = s.prf.profiles) (h : ProfilesInRange s) :
    ProfilesInRange u := by
  simpa only [ProfilesInRange, e] using h

/-- R119: the defaults of Table 6-1 lie in their ranges. -/
theorem profilesInRange_of_default (e : u.prf = ProfileBlock.default) : ProfilesInRange u := by
  intro i f
  have hi : u.prf.profiles[i] = Profile.default := by simp [e, ProfileBlock.default]
  rw [hi]
  cases f <;> rfl

@[simp] theorem writeWrsel_prf (s : State) (i : Fin 2) : (s.writeWrsel i).prf = { s.prf with wrsel := i } := rfl

theorem profilesInRange_writeField {f : ProfileField} {n : Nat} (hn : fieldInRange f n = true)
    (h : ProfilesInRange s) : ProfilesInRange (s.writeField f n) := by
  intro i g
  rw [get_writeField (fieldInRange_iff.mp hn).2]
  split
  next hg => exact hg.2 ▸ hn
  · exact h i g

theorem profilesInRange_of_effect (he : Effect s c u) (h : ProfilesInRange s) : ProfilesInRange u := by
  cases he
  case writeField hn _ => exact profilesInRange_writeField hn h
  case powerOn => exact profilesInRange_of_default rfl
  case deviceReset => exact profilesInRange_of_default rfl
  all_goals exact profilesInRange_congr (by simp [upstreamReset, afterGrant]) h

/-- Settles O5: a write of a field is in range, the resets write the defaults, and nothing else writes a profile. -/
theorem profilesStayInRange : Obligations.ProfilesStayInRange :=
  keptByStep_of_effect (fun _ _ _ _ h => h) (fun _ => profilesInRange_congr (by simp))
    fun _ _ _ => profilesInRange_of_effect

end Sys2Proof.Proofs
end

section
/-! SUPPORT. What no command changes, and what commands only let grow: the queue of commands and the counters
(R173), and the statements O1, O3 and O18. -/

namespace Sys2Proof.Proofs

open Sys2Proof Sys2Proof.Machine Sys2Proof.Claims

variable {s u v : State} {c : Instr}

/-! ### The queue -/

/-- Settles O1: the step at the front of the queue is `exec` by definition. -/
theorem frontCommandIsExecuted : Obligations.FrontCommandIsExecuted := by
  unfold Obligations.FrontCommandIsExecuted
  intro s c rest hq
  simp only [step, hq]
  rfl

theorem deviceResetValues_pending (s : State) (kind : ResetKind) (hold : Option Interval) :
    (s.deviceResetValues kind hold).pending = s.pending := by
  simp [State.deviceResetValues]

theorem pending_of_effect (he : Effect s c u) : u.pending = s.pending := by
  cases he
  case powerOn => rfl
  case deviceReset => exact deviceResetValues_pending ..
  all_goals simp [upstreamReset, afterGrant]

theorem exec_pending {t : State} (h : exec c s = .next t) : t.pending = s.pending := by
  obtain ⟨u, m, w, he, -, rfl⟩ := exec_reaches h
  exact pending_of_effect (u := u) he

/-- Settles O3: no effect writes the queue, and the management port is not the queue. -/
theorem commandsLeaveTheQueue : Obligations.CommandsLeaveTheQueue :=
  fun _ _ _ => exec_pending

/-! ### The counters -/

/-- No counter of `u` is below its value in `s`. -/
structure CountersLe (s u : State) : Prop where
  le : ∀ k : Counter, (s.counter k).toNat ≤ (u.counter k).toNat

@[simp] theorem bump_counters (s : State) (k : Counter) :
    (s.bump k).counters = s.counters.set k.index (satInc s.counters[k.index]) := rfl

theorem CountersLe.refl (s : State) : CountersLe s s := ⟨fun _ => le_rfl⟩

theorem CountersLe.frame (h : CountersLe s u) (e : v.counters = u.counters) : CountersLe s v :=
  ⟨fun k => State.counter_congr e k ▸ h.le k⟩

theorem CountersLe.bump (h : CountersLe s u) (k : Counter) : CountersLe s (u.bump k) := by
  refine ⟨fun k' => ?_⟩
  rw [State.counter_bump]
  split
  next e => exact e ▸ (h.le k').trans (satInc_toNat_le _)
  · exact h.le k'

theorem CountersLe.abortMigration (h : CountersLe s u) (o : MigOutcome) (a : Bool) :
    CountersLe s (u.abortMigration o a) := by
  unfold State.abortMigration
  split
  · exact h
  · exact (h.bump .migrationsAborted).frame (by cases a <;> simp)

theorem CountersLe.retryDecision (h : CountersLe s u) (c : MigContext) : CountersLe s (u.retryDecision c) := by
  unfold State.retryDecision
  split
  · exact CountersLe.abortMigration (h.frame (by simp)) ..
  · exact (h.bump .copyRetries).frame (by simp)

theorem CountersLe.addLoss (h : CountersLe s u) (home : HomeRow) (line : Fin 32) (o : LossOrigin) :
    CountersLe s (u.addLoss home line o) := by
  unfold State.addLoss
  split
  · exact h.frame rfl
  · exact (h.bump _).frame rfl

theorem CountersLe.suspectUpdate (h : CountersLe s u) (home : HomeRow) (ue : Bool) (o : SuspectOrigin) :
    CountersLe s (u.suspectUpdate home ue o) := by
  unfold State.suspectUpdate
  split
  · exact h.frame (by simp)
  · split
    · exact h.frame (by simp)
    · split
      · exact h.frame (by simp)
      · exact h.bump _

theorem CountersLe.attributeHost (h : CountersLe s u) (home : HomeRow) (st : AnswerStatus) :
    CountersLe s (u.attributeHost home st) := by
  cases st with
  | ok => exact h
  | ce | ue => exact (h.bump _).suspectUpdate ..

theorem CountersLe.attributeScrub (h : CountersLe s u) (home : HomeRow) (line : Fin 32) (st : AnswerStatus) :
    CountersLe s (u.attributeScrub home line st) := by
  cases st with
  | ok => exact h
  | ce => exact (h.bump _).suspectUpdate ..
  | ue => exact ((h.bump _).suspectUpdate ..).addLoss ..

theorem CountersLe.copyReadAnswer (h : CountersLe s u) (c : MigContext) (e : FifoEntry) (st : AnswerStatus)
    (data : List Byte) : CountersLe s (u.copyReadAnswer c e st data) := by
  unfold State.copyReadAnswer
  split
  · exact h.retryDecision c
  · cases st with
    | ok | ce => exact h.frame rfl
    | ue => exact CountersLe.addLoss ((h.bump .copyUe).frame (by simp)) ..

theorem CountersLe.endOfCopy (h : CountersLe s u) (c : MigContext) : CountersLe s (u.endOfCopy c) := by
  unfold State.endOfCopy
  split
  · dsimp only
    split <;> exact h.frame (by simp)
  · exact (h.bump .migrationsCommitted).frame (by simp)

theorem CountersLe.passWrap (h : CountersLe s u) : CountersLe s u.passWrap := by
  refine (h.bump .scrubPasses).frame ?_
  simp [State.passWrap]

theorem CountersLe.moveCursor (h : CountersLe s u) (n : Nat) : CountersLe s (u.moveCursor n) := by
  unfold State.moveCursor
  split
  · exact h.frame rfl
  · exact h.passWrap

theorem CountersLe.endLine (h : CountersLe s u) : CountersLe s u.endLine :=
  CountersLe.moveCursor (u := u.putLine none) (h.frame rfl) _

theorem CountersLe.rowSkip (h : CountersLe s u) : CountersLe s u.rowSkip :=
  (h.bump .skippedRows).moveCursor _

theorem CountersLe.beginScrubLine (h : CountersLe s u) (n : Nat) : CountersLe s (State.beginScrubLine n u) := by
  induction n generalizing u with
  | zero => exact h
  | succ n ih =>
    unfold State.beginScrubLine
    split
    · split
      · exact ih h.rowSkip
      · exact h.frame rfl
    · exact h

theorem CountersLe.scrubReadGrant (h : CountersLe s u) (l : ScrubLine) : CountersLe s (u.scrubReadGrant l) := by
  unfold State.scrubReadGrant
  dsimp only
  split
  · exact CountersLe.rowSkip (u := u.putLine none) (h.frame rfl)
  · exact h.frame rfl

theorem CountersLe.scrubWritebackGrant (h : CountersLe s u) (l : ScrubLine) :
    CountersLe s (u.scrubWritebackGrant l) := by
  unfold State.scrubWritebackGrant
  split
  · exact (h.bump .wbDropped).endLine
  · exact h.frame rfl

theorem CountersLe.scrubReadAnswer (h : CountersLe s u) (l : ScrubLine) (st : AnswerStatus) (data : List Byte) :
    CountersLe s (u.scrubReadAnswer l st data) := by
  unfold State.scrubReadAnswer
  split
  · exact h.endLine
  · exact h.endLine
  · split
    · exact h.frame rfl
    · exact h.endLine

theorem CountersLe.enterFault (h : CountersLe s u) (reason : FaultReason) :
    CountersLe s (u.enterFault reason) := by
  refine CountersLe.frame (CountersLe.abortMigration
    (u := (u.failHost.faultPort reason).bump .dlinkFaults |>.raise .link)
    ((h.bump .dlinkFaults).frame (by simp)) .abortedDownstream true) ?_
  simp [State.enterFault]

theorem CountersLe.resetEntries (h : CountersLe s u) : CountersLe s u.resetEntries := by
  unfold State.resetEntries
  generalize List.finRange 128 = l
  induction l generalizing u with
  | nil => exact h
  | cons i l ih =>
    refine ih ?_
    unfold State.resetSlot
    split
    · exact (h.bump .migrationsAborted).frame (by simp)
    · exact h

theorem CountersLe.deviceResetValues (h : CountersLe s u) (kind : ResetKind) (hold : Option Interval) :
    CountersLe s (u.deviceResetValues kind hold) :=
  (h.abortMigration .abortedReset false).resetEntries.frame (by simp only [State.deviceResetValues])

theorem countersLe_of_effect (he : Effect s c u) (hc : c ≠ .powerOnReset) (hcc : ∀ a, c ≠ .counterClear a) :
    CountersLe s u := by
  have h := CountersLe.refl s
  cases he
  case powerOn => exact absurd rfl hc
  case counterClear args => exact absurd rfl (hcc args)
  case protocolError => exact (h.bump .protocolErrors).frame rfl
  case frameError => exact h.bump _
  case copyWithdrawn => exact (h.retryDecision _).frame rfl
  case scrubReadGrant => exact (h.scrubReadGrant _).frame rfl
  case scrubWritebackGrant => exact (h.scrubWritebackGrant _).frame rfl
  case hostAnswer | orphanAnswer => exact CountersLe.attributeHost (h.frame (by simp)) _ _
  case copyReadAnswer => exact CountersLe.copyReadAnswer (h.frame (by simp)) ..
  case endOfCopy => exact CountersLe.endOfCopy (h.frame (by simp)) ..
  case scrubAttributed => exact CountersLe.attributeScrub (h.frame (by simp)) ..
  case scrubReadAnswer => exact (CountersLe.attributeScrub (h.frame (by simp)) ..).scrubReadAnswer ..
  case scrubWritten => exact CountersLe.endLine (h.frame (by simp))
  case fault => exact h.enterFault _
  case notReady => exact CountersLe.enterFault (h.frame (by simp)) _
  case abort => exact h.abortMigration ..
  case commit => exact (h.bump .migrationsCommitted).frame (by simp)
  case discard => exact (h.bump .migrationsAborted).frame (by simp)
  case scrubBegin => exact CountersLe.beginScrubLine (h.frame (by simp)) _
  case deviceReset => exact CountersLe.deviceResetValues (h.frame (by simp only)) _ _
  all_goals exact h.frame (by simp [upstreamReset, afterGrant])

/-- Settles O18: every effect but the two that clear the counters is made of operations that bump or keep them. -/
theorem countersOnlyGrow : Obligations.CountersOnlyGrow := by
  unfold Obligations.CountersOnlyGrow
  intro c s t h hc hcc k
  obtain ⟨u, m, w, he, -, rfl⟩ := exec_reaches h
  exact (countersLe_of_effect he hc hcc).le k

end Sys2Proof.Proofs
end

section
/-! SUPPORT. What commit, rollback, abort and device reset make of the remap table, the spare pool and the error
monitor (R20, R21, R85, R95). -/

namespace Sys2Proof.Proofs

open Sys2Proof Sys2Proof.Machine Sys2Proof.Claims

variable {s u : State} {i : Fin 128} {e : RemapEntry} {cur : Option (Fin 16)} {nx : Fin 16} {c : MigContext}

/-! ### The blocks that the operations on one field replace -/

@[simp] theorem putCtx_mge (s : State) (x : Option MigContext) : (s.putCtx x).mge = { s.mge with ctx := x } := rfl

@[simp] theorem putLast_mge (s : State) (o : LastOutcome) : (s.putLast o).mge = { s.mge with last := some o } := rfl

@[simp] theorem putQueue_mge (s : State) (q : List RepairRequest) :
    (s.putQueue q).mge = { s.mge with queue := q } := rfl

@[simp] theorem putSuspects_emn (s : State) (l : List SuspectRecord) :
    (s.putSuspects l).emn = { s.emn with suspects := l } := rfl

@[simp] theorem putFifo_dp (s : State) (l : List FifoEntry) : (s.putFifo l).dp = { s.dp with fifo := l } := rfl

@[simp] theorem putStarvation_dp (s : State) (n : Nat) : (s.putStarvation n).dp = { s.dp with starvation := n } := rfl

@[simp] theorem putLine_psc (s : State) (l : Option ScrubLine) : (s.putLine l).psc = { s.psc with line := l } := rfl

@[simp] theorem putRecord_up (s : State) (tag : Fin 64) (r : Option HostRecord) :
    (s.putRecord tag r).up = { s.up with hrt := s.up.hrt.set tag r } := rfl

/-! ### The migration of an entry -/

theorem migration_eq_some_iff (st : EntryState) :
    st.migration = some (cur, nx) ↔ st = .moving cur nx ∨ st = .held cur nx := by
  cases st <;> simp [EntryState.migration]

/-- A MOVING or HELD entry names its current and its next spare, in the entry's own bank. -/
theorem names_of_migration (hm : e.st.migration = some (cur, nx)) (b x : Fin 16) :
    e.names b x ↔ e.home.bank = b ∧ (cur = some x ∨ nx = x) := by
  obtain ⟨home, st⟩ := e
  rcases (migration_eq_some_iff _).mp hm with rfl | rfl <;>
    simp [RemapEntry.names, EntryState.current, EntryState.next]

theorem names_active (h : HomeRow) (x b y : Fin 16) :
    (RemapEntry.mk h (.active x)).names b y ↔ h.bank = b ∧ x = y := by
  simp [RemapEntry.names, EntryState.current, EntryState.next]

/-! ### Commit and rollback -/

/-- A rollback of a slot without a MOVING or HELD entry changes nothing. -/
theorem rollbackSlot_of_settled (h : ∀ e, s.rmt[i] = some e → e.st.migration = none) : s.rollbackSlot i = s := by
  unfold State.rollbackSlot
  split
  · rfl
  next e he => rw [h e he]

theorem commitSlot_of_settled (h : ∀ e, s.rmt[i] = some e → e.st.migration = none) : s.commitSlot i = s := by
  unfold State.commitSlot
  split
  · rfl
  next e he => rw [h e he]

theorem rollbackSlot_of_migration (hi : s.rmt[i] = some e) (hm : e.st.migration = some (cur, nx)) :
    s.rollbackSlot i =
      ((s.putSlot i (cur.map fun x => ⟨e.home, .active x⟩)).putSpare e.home.bank nx .free).unpin e.home := by
  simp only [State.rollbackSlot, hi, hm]

theorem commitSlot_of_migration (hi : s.rmt[i] = some e) (hm : e.st.migration = some (cur, nx)) :
    s.commitSlot i =
      ((s.putSlot i (some ⟨e.home, .active nx⟩)).retireOld e.home.bank cur).dropSuspect e.home := by
  simp only [State.commitSlot, hi, hm]

/-- A slot holds a MOVING or HELD entry, or none of its entries is in migration. -/
theorem migration_or_settled (s : State) (i : Fin 128) :
    (∃ e cur nx, s.rmt[i] = some e ∧ e.st.migration = some (cur, nx)) ∨
      ∀ e, s.rmt[i] = some e → e.st.migration = none := by
  cases he : s.rmt[i] with
  | none => exact .inr nofun
  | some e =>
    cases hm : e.st.migration with
    | none => exact .inr fun e' h => Option.some.inj h ▸ hm
    | some p => exact .inl ⟨e, p.1, p.2, rfl, hm⟩

theorem rollbackSlot_rmt (hi : s.rmt[i] = some e) (hm : e.st.migration = some (cur, nx)) (j : Fin 128) :
    (s.rollbackSlot i).rmt[j] = if j = i then cur.map fun x => ⟨e.home, .active x⟩ else s.rmt[j] := by
  rw [rollbackSlot_of_migration hi hm]
  exact s.rmt_putSlot i j _

theorem rollbackSlot_spare (hi : s.rmt[i] = some e) (hm : e.st.migration = some (cur, nx)) (b x : Fin 16) :
    (s.rollbackSlot i).spare b x = if b = e.home.bank ∧ x = nx then .free else s.spare b x := by
  rw [rollbackSlot_of_migration hi hm]
  exact (s.putSlot i _).spare_putSpare _ _ b x _

theorem commitSlot_rmt (hi : s.rmt[i] = some e) (hm : e.st.migration = some (cur, nx)) (j : Fin 128) :
    (s.commitSlot i).rmt[j] = if j = i then some ⟨e.home, .active nx⟩ else s.rmt[j] := by
  rw [commitSlot_of_migration hi hm, dropSuspect_eq, retireOld_eq]
  exact s.rmt_putSlot i j _

theorem retireOld_spare (s : State) (bank b x : Fin 16) (old : Option (Fin 16)) :
    (s.retireOld bank old).spare b x = if b = bank ∧ old = some x then .retired else s.spare b x := by
  cases old with
  | none => simp [State.retireOld]
  | some y =>
    rw [State.retireOld, State.spare_putSpare]
    simp [eq_comm]

theorem commitSlot_spare (hi : s.rmt[i] = some e) (hm : e.st.migration = some (cur, nx)) (b x : Fin 16) :
    (s.commitSlot i).spare b x = if b = e.home.bank ∧ cur = some x then .retired else s.spare b x := by
  rw [commitSlot_of_migration hi hm]
  exact retireOld_spare (s.putSlot i _) _ b x _

/-- A rollback touches the suspect list of the error monitor alone. -/
theorem rollbackSlot_emn (s : State) (i : Fin 128) :
    (s.rollbackSlot i).emn = { s.emn with suspects := (s.rollbackSlot i).emn.suspects } := by
  rcases migration_or_settled s i with ⟨e, cur, nx, hi, hm⟩ | h
  · rw [rollbackSlot_of_migration hi hm]
    rfl
  · rw [rollbackSlot_of_settled h]

theorem commitSlot_emn (s : State) (i : Fin 128) :
    (s.commitSlot i).emn = { s.emn with suspects := (s.commitSlot i).emn.suspects } := by
  rcases migration_or_settled s i with ⟨e, cur, nx, hi, hm⟩ | h
  · rw [commitSlot_of_migration hi hm, dropSuspect_eq, retireOld_eq]
    rfl
  · rw [commitSlot_of_settled h]

/-! ### Abort -/

theorem abortMigration_of_idle (hc : s.mge.ctx = none) (o : MigOutcome) (a : Bool) : s.abortMigration o a = s := by
  simp only [State.abortMigration, hc]

/-- R85: what an abort makes of the tables is the rollback of the context's slot. -/
theorem abortMigration_tables (hc : s.mge.ctx = some c) (o : MigOutcome) (a : Bool) :
    (s.abortMigration o a).rmt = (s.rollbackSlot c.slot).rmt ∧
      (s.abortMigration o a).spl = (s.rollbackSlot c.slot).spl ∧
      (s.abortMigration o a).emn = (s.rollbackSlot c.slot).emn ∧
      (s.abortMigration o a).mge = { s.mge with ctx := none, last := some (c.outcome o) } := by
  cases a <;> simp [State.abortMigration, hc]

@[simp] theorem abortMigration_ctx (s : State) (o : MigOutcome) (a : Bool) :
    (s.abortMigration o a).mge.ctx = none := by
  cases hc : s.mge.ctx with
  | none => rw [abortMigration_of_idle hc, hc]
  | some c => rw [(abortMigration_tables hc o a).2.2.2]

@[simp] theorem abortMigration_queue (s : State) (o : MigOutcome) (a : Bool) :
    (s.abortMigration o a).mge.queue = s.mge.queue := by
  cases hc : s.mge.ctx with
  | none => rw [abortMigration_of_idle hc]
  | some c => rw [(abortMigration_tables hc o a).2.2.2]

/-- What every rollback of a slot keeps, an abort keeps, where the property reads the tables alone. -/
theorem abortMigration_induct {P : State → Prop} (hroll : ∀ s i, P s → P (s.rollbackSlot i))
    (hcongr : ∀ s u, u.rmt = s.rmt → u.spl = s.spl → u.emn = s.emn → P s → P u) (o : MigOutcome) (a : Bool)
    (h : P s) : P (s.abortMigration o a) := by
  cases hc : s.mge.ctx with
  | none => exact (abortMigration_of_idle hc o a).symm ▸ h
  | some c =>
    obtain ⟨hrmt, hspl, hemn, -⟩ := abortMigration_tables hc o a
    exact hcongr _ _ hrmt hspl hemn (hroll s c.slot h)

/-- What every rollback of a slot keeps, the rollbacks of a device reset keep. -/
theorem resetEntries_induct {P : State → Prop} (hroll : ∀ s i, P s → P (s.rollbackSlot i))
    (hcongr : ∀ s u, u.rmt = s.rmt → u.spl = s.spl → u.emn = s.emn → P s → P u) (h : P s) : P s.resetEntries := by
  unfold State.resetEntries
  generalize List.finRange 128 = l
  induction l generalizing s with
  | nil => exact h
  | cons i l ih =>
    refine ih ?_
    unfold State.resetSlot
    split
    · exact hcongr (s.rollbackSlot i) _ rfl rfl rfl (hroll s i h)
    · exact h

/-- The tables as a device reset leaves them, before the other blocks take their reset values (R95). -/
def resetTables (s : State) : State := (s.abortMigration .abortedReset false).resetEntries

/-- R175: what a device reset writes, block by block. -/
theorem deviceResetValues_blocks (s : State) (kind : ResetKind) (hold : Option Interval) :
    (s.deviceResetValues kind hold).pins = s.pins ∧
      (s.deviceResetValues kind hold).rst = { s.rst with force := .device, hold := hold, last := kind } ∧
      (s.deviceResetValues kind hold).rmt = (resetTables s).rmt ∧
      (s.deviceResetValues kind hold).spl = (resetTables s).spl ∧
      (s.deviceResetValues kind hold).emn = { (resetTables s).emn with decay := none } ∧
      (s.deviceResetValues kind hold).mge = { queue := [], ctx := none, last := (resetTables s).mge.last } ∧
      (s.deviceResetValues kind hold).psc = { s.psc with state := .idle, timer := none, line := none } ∧
      (s.deviceResetValues kind hold).prf = ProfileBlock.default ∧
      (s.deviceResetValues kind hold).up = UpstreamPort.powerOn ∧
      (s.deviceResetValues kind hold).dp = DownstreamPort.powerOn ∧
      (s.deviceResetValues kind hold).alc = AlertController.powerOn ∧
      (s.deviceResetValues kind hold).mgp = { ManagementPort.powerOn with frame := s.mgp.frame.abandoned } ∧
      (s.deviceResetValues kind hold).counters = (resetTables s).counters ∧
      (s.deviceResetValues kind hold).wires = s.wires ∧
      (s.deviceResetValues kind hold).pending = s.pending := by
  simp [State.deviceResetValues, resetTables]

/-- What every rollback keeps, a device reset keeps, where the property reads the table and the spares alone. -/
theorem deviceResetValues_induct {P : State → Prop} (hroll : ∀ s i, P s → P (s.rollbackSlot i))
    (hcongr : ∀ s u, u.rmt = s.rmt → u.spl = s.spl → P s → P u) (kind : ResetKind) (hold : Option Interval)
    (h : P s) : P (s.deviceResetValues kind hold) := by
  obtain ⟨-, -, hrmt, hspl, -⟩ := deviceResetValues_blocks s kind hold
  refine hcongr _ _ hrmt hspl ?_
  exact resetEntries_induct hroll (fun s u h₁ h₂ _ => hcongr s u h₁ h₂)
    (abortMigration_induct hroll (fun s u h₁ h₂ _ => hcongr s u h₁ h₂) _ _ h)

end Sys2Proof.Proofs
end

section
/-! SUPPORT. ASSIGNED spares stay matched with the entries that name them (R29, R6), a RETIRED spare stays RETIRED
(Table 2-2), and the statements O8 and O17. -/

namespace Sys2Proof.Proofs

open Sys2Proof Sys2Proof.Machine Sys2Proof.Claims

variable {s u : State} {i : Fin 128} {c : MigContext}

theorem spare_congr_spares (e : u.spl.spares = s.spl.spares) (b x : Fin 16) : u.spare b x = s.spare b x := by
  simp only [State.spare, e]

theorem sparesMatch_congr (h₁ : u.rmt = s.rmt) (h₂ : u.spl.spares = s.spl.spares) (h : SparesMatchEntries s) :
    SparesMatchEntries u := by
  simpa only [SparesMatchEntries, State.spare, h₁, h₂] using h

/-- The content `o` of a slot names this spare. -/
def SlotNames (o : Option RemapEntry) (b x : Fin 16) : Prop := ∃ e ∈ o, e.names b x

theorem slotNames_none (b x : Fin 16) : ¬SlotNames none b x := fun ⟨_, h, _⟩ => nomatch h

theorem slotNames_some (e : RemapEntry) (b x : Fin 16) : SlotNames (some e) b x ↔ e.names b x := by
  simp [SlotNames]

theorem slotNames_active (h : HomeRow) (y b x : Fin 16) :
    SlotNames (some ⟨h, .active y⟩) b x ↔ h.bank = b ∧ y = x := by
  rw [slotNames_some, names_active]

/-- What a rollback leaves in a slot names the old current spare alone. -/
theorem slotNames_rolledBack (h : HomeRow) (cur : Option (Fin 16)) (b x : Fin 16) :
    SlotNames (cur.map fun y => ⟨h, .active y⟩) b x ↔ h.bank = b ∧ cur = some x := by
  cases cur with
  | none => simp [slotNames_none]
  | some y => simp [slotNames_active]

/-- A change of one slot keeps the matching where the slot's new content names only spares it named or that were
not ASSIGNED, and the spares follow: ASSIGNED are those it names now and those that other slots name. -/
theorem sparesMatch_update {new : Option RemapEntry} (h : SparesMatchEntries s)
    (hrmt : ∀ j, u.rmt[j] = if j = i then new else s.rmt[j])
    (hdiffer : ∀ e ∈ new, ∀ x ∈ e.st.current, e.st.next ≠ some x)
    (hspare : ∀ b x, u.spare b x = .assigned ↔
      SlotNames new b x ∨ (s.spare b x = .assigned ∧ ¬SlotNames s.rmt[i] b x))
    (hfresh : ∀ b x, SlotNames new b x → s.spare b x = .assigned → SlotNames s.rmt[i] b x) :
    SparesMatchEntries u := by
  obtain ⟨hassigned, hunique, hdiff⟩ := h
  have hold : ∀ {j : Fin 128} {b x : Fin 16}, j ≠ i → SlotNames s.rmt[j] b x → ¬SlotNames s.rmt[i] b x := by
    rintro j b x hj ⟨e, he, hn⟩ ⟨e', he', hn'⟩
    exact hj (hunique j e he i e' he' b x hn hn')
  have hother : ∀ {j : Fin 128} {b x : Fin 16}, j ≠ i → SlotNames s.rmt[j] b x → ¬SlotNames new b x := by
    rintro j b x hj hn hnew
    obtain ⟨e, he, hne⟩ := hn
    exact hold hj ⟨e, he, hne⟩ (hfresh b x hnew ((hassigned b x).mpr ⟨j, e, he, hne⟩))
  refine ⟨fun b x => ?_, fun j e he k e' he' b x hn hn' => ?_, fun j e he => ?_⟩
  · rw [hspare]
    constructor
    · rintro (⟨e, he, hn⟩ | ⟨ha, hni⟩)
      · exact ⟨i, e, by rwa [hrmt, if_pos rfl], hn⟩
      · obtain ⟨j, e, he, hn⟩ := (hassigned b x).mp ha
        have hj : j ≠ i := fun hj => hni (hj ▸ ⟨e, he, hn⟩)
        exact ⟨j, e, by rwa [hrmt, if_neg hj], hn⟩
    · rintro ⟨j, e, he, hn⟩
      rw [hrmt] at he
      split at he
      · exact .inl ⟨e, he, hn⟩
      next hj => exact .inr ⟨(hassigned b x).mpr ⟨j, e, he, hn⟩, hold hj ⟨e, he, hn⟩⟩
  · rw [hrmt] at he he'
    split at he <;> split at he'
    next hj hk => exact hj.trans hk.symm
    next hj hk => exact absurd ⟨e, he, hn⟩ (hother hk ⟨e', he', hn'⟩)
    next hj hk => exact absurd ⟨e', he', hn'⟩ (hother hj ⟨e, he, hn⟩)
    · exact hunique j e he k e' he' b x hn hn'
  · rw [hrmt] at he
    split at he
    · exact hdiffer e he
    · exact hdiff j e he

/-- Under the matching, a spare that an entry names is ASSIGNED. -/
theorem assigned_of_names (h : SparesMatchEntries s) {e : RemapEntry} {b x : Fin 16} (hi : s.rmt[i] = some e)
    (hn : e.names b x) : s.spare b x = .assigned :=
  (h.1 b x).mpr ⟨i, e, hi, hn⟩

/-- R6: under the matching, the two spares of an entry in migration differ. -/
theorem current_ne_next (h : SparesMatchEntries s) {e : RemapEntry} {cur : Option (Fin 16)} {nx : Fin 16}
    (hi : s.rmt[i] = some e) (hm : e.st.migration = some (cur, nx)) : cur ≠ some nx := by
  rintro rfl
  have hne := h.2.2 i e hi nx
  rcases (migration_eq_some_iff _).mp hm with hst | hst
  · exact hne (by simp [hst, EntryState.current]) (by simp [hst, EntryState.next])
  · exact hne (by simp [hst, EntryState.current]) (by simp [hst, EntryState.next])

theorem sparesMatch_rollbackSlot (h : SparesMatchEntries s) (i : Fin 128) :
    SparesMatchEntries (s.rollbackSlot i) := by
  rcases migration_or_settled s i with ⟨e, cur, nx, hi, hm⟩ | hs
  · have hdiff := current_ne_next h hi hm
    refine sparesMatch_update h (rollbackSlot_rmt hi hm) ?_ (fun b x => ?_) (fun b x hn _ => ?_)
    · cases cur <;> simp [EntryState.next]
    · rw [rollbackSlot_spare hi hm, slotNames_rolledBack, hi, slotNames_some, names_of_migration hm]
      by_cases hb : e.home.bank = b
      · subst hb
        by_cases hx : x = nx
        · simp [hx, hdiff]
        · simp only [hx, and_false, if_false, true_and]
          constructor
          · intro ha
            by_cases hc : cur = some x
            · exact .inl hc
            · exact .inr ⟨ha, by rintro (hc' | hn); exacts [hc hc', hx hn.symm]⟩
          · rintro (hc | ⟨ha, -⟩)
            · exact assigned_of_names h hi ((names_of_migration hm _ x).mpr ⟨rfl, .inl hc⟩)
            · exact ha
      · have hb' : ¬b = e.home.bank := fun e => hb e.symm
        simp [hb, hb']
    · rw [slotNames_rolledBack] at hn
      rw [hi, slotNames_some, names_of_migration hm]
      exact ⟨hn.1, .inl hn.2⟩
  · rwa [rollbackSlot_of_settled hs]

theorem sparesMatch_commitSlot (h : SparesMatchEntries s) (i : Fin 128) : SparesMatchEntries (s.commitSlot i) := by
  rcases migration_or_settled s i with ⟨e, cur, nx, hi, hm⟩ | hs
  · have hdiff := current_ne_next h hi hm
    refine sparesMatch_update h (commitSlot_rmt hi hm) ?_ (fun b x => ?_) (fun b x hn _ => ?_)
    · simp [EntryState.next]
    · rw [commitSlot_spare hi hm, slotNames_active, hi, slotNames_some, names_of_migration hm]
      by_cases hb : e.home.bank = b
      · subst hb
        by_cases hx : cur = some x
        · have : nx ≠ x := fun hn => hdiff (hn ▸ hx)
          simp [hx, this]
        · simp only [hx, and_false, if_false, true_and, false_or]
          constructor
          · intro ha
            by_cases hn : nx = x
            · exact .inl hn
            · exact .inr ⟨ha, hn⟩
          · rintro (hn | ⟨ha, -⟩)
            · exact assigned_of_names h hi ((names_of_migration hm _ x).mpr ⟨rfl, .inr hn⟩)
            · exact ha
      · have hb' : ¬b = e.home.bank := fun e => hb e.symm
        simp [hb, hb']
    · rw [slotNames_active] at hn
      rw [hi, slotNames_some, names_of_migration hm]
      exact ⟨hn.1, .inr hn.2⟩
  · rwa [commitSlot_of_settled hs]

/-! ### Allocation and retirement of a FREE spare (R30, R32, R35) -/

/-- An entry put in a slot takes a FREE spare of its bank and keeps the spares that the slot's entry named. -/
theorem sparesMatch_allocate {e : RemapEntry} {nx : Fin 16} (h : SparesMatchEntries s)
    (hrmt : ∀ j, u.rmt[j] = if j = i then some e else s.rmt[j]) (hfree : s.spare e.home.bank nx = .free)
    (hspare : ∀ b x, u.spare b x = if b = e.home.bank ∧ x = nx then .assigned else s.spare b x)
    (hnames : ∀ b x, e.names b x ↔ (e.home.bank = b ∧ nx = x) ∨ SlotNames s.rmt[i] b x)
    (hdiffer : ∀ x ∈ e.st.current, e.st.next ≠ some x) : SparesMatchEntries u := by
  refine sparesMatch_update h hrmt (fun e' he' => ?_) (fun b x => ?_) (fun b x hn ha => ?_)
  · obtain rfl := Option.some.inj he'
    exact hdiffer
  · rw [hspare, slotNames_some, hnames]
    by_cases hb : b = e.home.bank ∧ x = nx
    · obtain ⟨rfl, rfl⟩ := hb
      simp
    · have hb' : ¬(e.home.bank = b ∧ nx = x) := fun ⟨h₁, h₂⟩ => hb ⟨h₁.symm, h₂.symm⟩
      simp only [hb, hb', if_false, false_or]
      constructor
      · intro ha
        by_cases hn : SlotNames s.rmt[i] b x
        · exact .inl hn
        · exact .inr ⟨ha, hn⟩
      · rintro (⟨e', he', hn⟩ | ⟨ha, -⟩)
        · exact assigned_of_names h he' hn
        · exact ha
  · rw [slotNames_some, hnames] at hn
    rcases hn with ⟨rfl, rfl⟩ | hn
    · exact nomatch hfree.symm.trans ha
    · exact hn

theorem sparesMatch_remapLoad {h : HomeRow} {sp : Fin 16} (hm : SparesMatchEntries s)
    (hfree : s.spare h.bank sp = .free) (hempty : s.rmt[i] = none) :
    SparesMatchEntries ((s.putSlot i (some ⟨h, .active sp⟩)).putSpare h.bank sp .assigned) := by
  refine sparesMatch_allocate (e := ⟨h, .active sp⟩) hm (s.rmt_putSlot i · _) hfree
    (fun b x => (s.putSlot i _).spare_putSpare _ _ b x _) (fun b x => ?_) ?_
  · rw [names_active, hempty]
    simp [slotNames_none]
  · simp [EntryState.next]

theorem beginMigration_rmt (s : State) (q : RepairRequest) (i : Fin 128) (cur : Option (Fin 16)) (nx : Fin 16)
    (j : Fin 128) :
    (s.beginMigration q i cur nx).rmt[j] = if j = i then some ⟨q.home, .moving cur nx⟩ else s.rmt[j] := by
  have hw : ((s.putSpare q.home.bank nx .assigned).checkWatermark q.home.bank).rmt = s.rmt := by simp
  exact (State.rmt_putSlot _ i j _).trans (by rw [hw])

theorem beginMigration_spl (s : State) (q : RepairRequest) (i : Fin 128) (cur : Option (Fin 16)) (nx : Fin 16) :
    (s.beginMigration q i cur nx).spl = (s.putSpare q.home.bank nx .assigned).spl := by
  simp [State.beginMigration]

theorem beginMigration_spare (s : State) (q : RepairRequest) (i : Fin 128) (cur : Option (Fin 16))
    (nx b x : Fin 16) :
    (s.beginMigration q i cur nx).spare b x =
      if b = q.home.bank ∧ x = nx then .assigned else s.spare b x :=
  (State.spare_congr (beginMigration_spl s q i cur nx) b x).trans (s.spare_putSpare _ _ b x _)

theorem sparesMatch_beginMigration {q : RepairRequest} {rest : List RepairRequest} {cur : Option (Fin 16)}
    {nx : Fin 16} (h : SparesMatchEntries s) (hs : StartsIn s q.home i cur)
    (hfree : s.spare q.home.bank nx = .free) :
    SparesMatchEntries ((s.putQueue rest).beginMigration q i cur nx) := by
  refine sparesMatch_allocate (e := ⟨q.home, .moving cur nx⟩) h (beginMigration_rmt (s.putQueue rest) q i cur nx)
    hfree (beginMigration_spare (s.putQueue rest) q i cur nx) (fun b x => ?_) ?_
  · rw [names_of_migration rfl]
    rcases hs with ⟨rfl, -, hempty⟩ | ⟨y, rfl, -, hy⟩
    · rw [hempty]
      simp [slotNames_none]
    · rw [hy, slotNames_active]
      simp only [Option.some.injEq]
      tauto
  · rintro x hx he
    obtain rfl : nx = x := Option.some.inj he
    rcases hs with ⟨rfl, -, hempty⟩ | ⟨y, rfl, -, hy⟩
    · cases hx
    · obtain rfl : y = nx := Option.some.inj hx
      exact nomatch hfree.symm.trans (assigned_of_names h hy ((names_active _ _ _ _).mpr ⟨rfl, rfl⟩))

theorem sparesMatch_spareRetire {b x : Fin 16} (h : SparesMatchEntries s) (hfree : s.spare b x = .free) :
    SparesMatchEntries (s.putSpare b x .retired) := by
  obtain ⟨hassigned, hrest⟩ := h
  refine ⟨fun b' x' => ?_, hrest⟩
  rw [State.spare_putSpare]
  split
  next hb =>
    obtain ⟨rfl, rfl⟩ := hb
    exact (iff_of_false (by decide) (by rw [hfree]; decide)).trans (hassigned b' x')
  · exact hassigned b' x'

/-! ### The operations that roll back or commit -/

theorem sparesMatch_abortMigration (h : SparesMatchEntries s) (o : MigOutcome) (a : Bool) :
    SparesMatchEntries (s.abortMigration o a) :=
  abortMigration_induct (fun _ i hs => sparesMatch_rollbackSlot hs i)
    (fun _ _ h₁ h₂ _ => sparesMatch_congr h₁ (by rw [h₂])) o a h

theorem sparesMatch_retryDecision (h : SparesMatchEntries s) (c : MigContext) :
    SparesMatchEntries (s.retryDecision c) := by
  unfold State.retryDecision
  split
  · exact sparesMatch_abortMigration (s := s.putCtx (some c)) h _ _
  · exact h

theorem sparesMatch_copyReadAnswer (h : SparesMatchEntries s) (c : MigContext) (e : FifoEntry) (st : AnswerStatus)
    (data : List Byte) : SparesMatchEntries (s.copyReadAnswer c e st data) := by
  unfold State.copyReadAnswer
  split
  · exact sparesMatch_retryDecision h c
  · cases st with
    | ok | ce => exact h
    | ue => exact sparesMatch_congr (by simp) (by simp) h

/-- R19: an entry that becomes HELD names the spares it named while MOVING. -/
theorem sparesMatch_hold {home : HomeRow} {cur : Option (Fin 16)} {nx : Fin 16} (h : SparesMatchEntries s)
    (hi : s.rmt[i] = some ⟨home, .moving cur nx⟩) :
    SparesMatchEntries (s.putSlot i (some ⟨home, .held cur nx⟩)) := by
  have hn : ∀ b x, SlotNames (some ⟨home, .held cur nx⟩) b x ↔ SlotNames s.rmt[i] b x := fun b x => by
    rw [hi, slotNames_some, slotNames_some, names_of_migration rfl, names_of_migration rfl]
  refine sparesMatch_update h (s.rmt_putSlot i · _) (fun e he => ?_) (fun b x => ?_) (fun b x hx _ => (hn b x).mp hx)
  · obtain rfl := Option.some.inj he
    exact fun x hx hn => h.2.2 i ⟨home, .moving cur nx⟩ hi x hx hn
  · rw [hn]
    constructor
    · intro ha
      by_cases hx : SlotNames s.rmt[i] b x
      · exact .inl hx
      · exact .inr ⟨ha, hx⟩
    · rintro (⟨e, he, hx⟩ | ⟨ha, -⟩)
      · exact assigned_of_names h he hx
      · exact ha

theorem sparesMatch_endOfCopy (h : SparesMatchEntries s) (c : MigContext) : SparesMatchEntries (s.endOfCopy c) := by
  unfold State.endOfCopy
  split
  · dsimp only
    split
    next home cur nx hi => exact sparesMatch_hold h hi
    · exact h
  · exact sparesMatch_congr (by simp) (by simp) (sparesMatch_commitSlot h c.slot)

theorem sparesMatch_enterFault (h : SparesMatchEntries s) (reason : FaultReason) :
    SparesMatchEntries (s.enterFault reason) := by
  have hf : SparesMatchEntries (((s.failHost.faultPort reason).bump .dlinkFaults).raise .link) :=
    sparesMatch_congr (by simp) (by simp) h
  exact sparesMatch_congr (by simp [State.enterFault]) (by simp [State.enterFault])
    (sparesMatch_abortMigration hf .abortedDownstream true)

theorem sparesMatch_deviceResetValues (h : SparesMatchEntries s) (kind : ResetKind) (hold : Option Interval) :
    SparesMatchEntries (s.deviceResetValues kind hold) :=
  deviceResetValues_induct (fun _ i hs => sparesMatch_rollbackSlot hs i)
    (fun _ _ h₁ h₂ => sparesMatch_congr h₁ (by rw [h₂])) kind hold h

theorem sparesMatch_powerOnValues (s : State) : SparesMatchEntries s.powerOnValues := by
  have hr : ∀ j : Fin 128, s.powerOnValues.rmt[j] = none := fun j => by simp [State.powerOnValues, State.reset]
  have hs : ∀ b x : Fin 16, s.powerOnValues.spare b x = .free := fun b x => by
    simp [State.spare, State.powerOnValues, State.reset]
  simp [SparesMatchEntries, hr, hs]

/-! ### Every command -/

theorem sparesMatch_of_effect {c : Instr} (he : Effect s c u) (h : SparesMatchEntries s) : SparesMatchEntries u := by
  cases he
  case copyWithdrawn => exact sparesMatch_retryDecision h _
  case copyReadAnswer => exact sparesMatch_copyReadAnswer (s := s.popFifo _) h _ _ _ _
  case endOfCopy => exact sparesMatch_endOfCopy (s := s.popFifo _) h _
  case fault => exact sparesMatch_enterFault h _
  case notReady =>
    refine sparesMatch_enterFault ?_ _
    exact h
  case beginMigration hs hfree => exact sparesMatch_beginMigration h hs hfree
  case abort => exact sparesMatch_abortMigration h _ _
  case commit => exact sparesMatch_commitSlot h _
  case discard => exact sparesMatch_rollbackSlot h _
  case remapLoad hfree hempty => exact sparesMatch_remapLoad h hfree hempty
  case spareRetire hfree => exact sparesMatch_spareRetire h hfree
  case powerOn => exact sparesMatch_powerOnValues s
  case deviceReset =>
    refine sparesMatch_deviceResetValues ?_ _ _
    exact h
  all_goals exact sparesMatch_congr (by simp [upstreamReset, afterGrant]) (by simp [upstreamReset, afterGrant]) h

/-- Settles O8: a change of one slot frees, retires or takes exactly the spares that the slot's entry no longer, or
newly, names. -/
theorem sparesStayMatched : Obligations.SparesStayMatched :=
  keptByStep_of_effect (fun _ _ _ _ h => h) (fun _ => sparesMatch_congr (by simp) (by simp))
    fun _ _ _ => sparesMatch_of_effect

end Sys2Proof.Proofs
end

section
/-! SUPPORT. A RETIRED spare stays RETIRED until power-on reset (Table 2-2), and the statement O17. -/

namespace Sys2Proof.Proofs

open Sys2Proof Sys2Proof.Machine Sys2Proof.Claims

variable {s t u v : State} {i : Fin 128} {b x : Fin 16}

/-- The spares of `u` match its entries, and each spare that is RETIRED in `s` is so in `u`. -/
def KeepsRetired (s u : State) : Prop :=
  SparesMatchEntries u ∧ ∀ b x : Fin 16, s.spare b x = .retired → u.spare b x = .retired

theorem KeepsRetired.frame (h : KeepsRetired s u) (h₁ : v.rmt = u.rmt) (h₂ : v.spl.spares = u.spl.spares) :
    KeepsRetired s v :=
  ⟨sparesMatch_congr h₁ h₂ h.1, fun b x hx => (spare_congr_spares h₂ b x).trans (h.2 b x hx)⟩

/-- A write over a spare that is not RETIRED, or one that retires, keeps the RETIRED spares. -/
theorem retired_of_ite {p : Prop} [Decidable p] {y z : SpareState} (hz : z = .retired)
    (hy : p → z = .retired → y = .retired) : (if p then y else z) = .retired := by
  split
  next hp => exact hy hp hz
  · exact hz

theorem KeepsRetired.rollbackSlot (h : KeepsRetired s u) (i : Fin 128) : KeepsRetired s (u.rollbackSlot i) := by
  refine ⟨sparesMatch_rollbackSlot h.1 i, fun b x hx => ?_⟩
  rcases migration_or_settled u i with ⟨e, cur, nx, hi, hm⟩ | hs
  · rw [rollbackSlot_spare hi hm]
    refine retired_of_ite (h.2 b x hx) fun hp hr => ?_
    obtain ⟨rfl, rfl⟩ := hp
    exact nomatch hr.symm.trans (assigned_of_names h.1 hi ((names_of_migration hm _ _).mpr ⟨rfl, .inr rfl⟩))
  · rw [rollbackSlot_of_settled hs]
    exact h.2 b x hx

theorem KeepsRetired.commitSlot (h : KeepsRetired s u) (i : Fin 128) : KeepsRetired s (u.commitSlot i) := by
  refine ⟨sparesMatch_commitSlot h.1 i, fun b x hx => ?_⟩
  rcases migration_or_settled u i with ⟨e, cur, nx, hi, hm⟩ | hs
  · rw [commitSlot_spare hi hm]
    exact retired_of_ite (h.2 b x hx) fun _ _ => rfl
  · rw [commitSlot_of_settled hs]
    exact h.2 b x hx

theorem KeepsRetired.abortMigration (h : KeepsRetired s u) (o : MigOutcome) (a : Bool) :
    KeepsRetired s (u.abortMigration o a) :=
  abortMigration_induct (fun _ i hs => hs.rollbackSlot i) (fun _ _ h₁ h₂ _ hs => hs.frame h₁ (by rw [h₂])) o a h

theorem KeepsRetired.retryDecision (h : KeepsRetired s u) (c : MigContext) : KeepsRetired s (u.retryDecision c) := by
  unfold State.retryDecision
  split
  · exact KeepsRetired.abortMigration (h.frame (by simp) (by simp)) ..
  · exact h.frame rfl rfl

theorem KeepsRetired.copyReadAnswer (h : KeepsRetired s u) (c : MigContext) (e : FifoEntry) (st : AnswerStatus)
    (data : List Byte) : KeepsRetired s (u.copyReadAnswer c e st data) := by
  unfold State.copyReadAnswer
  split
  · exact h.retryDecision c
  · cases st with
    | ok | ce => exact h.frame rfl rfl
    | ue => exact h.frame (by simp) (by simp)

theorem KeepsRetired.endOfCopy (h : KeepsRetired s u) (c : MigContext) : KeepsRetired s (u.endOfCopy c) := by
  refine ⟨sparesMatch_endOfCopy h.1 c, fun b x hx => ?_⟩
  unfold State.endOfCopy
  split
  · dsimp only
    split <;> exact h.2 b x hx
  · exact (h.commitSlot c.slot).2 b x hx

theorem KeepsRetired.enterFault (h : KeepsRetired s u) (reason : FaultReason) :
    KeepsRetired s (u.enterFault reason) := by
  have hf : KeepsRetired s (((u.failHost.faultPort reason).bump .dlinkFaults).raise .link) :=
    h.frame (by simp) (by simp)
  exact (hf.abortMigration .abortedDownstream true).frame (by simp [State.enterFault]) (by simp [State.enterFault])

/-- A change of a FREE spare leaves every RETIRED one. -/
theorem retired_of_free_changed {bank idx : Fin 16} {y : SpareState} (hfree : s.spare bank idx = .free)
    (hu : u.spare b x = if b = bank ∧ x = idx then y else s.spare b x) (hx : s.spare b x = .retired) :
    u.spare b x = .retired := by
  rw [hu]
  refine retired_of_ite hx fun hp hr => ?_
  obtain ⟨rfl, rfl⟩ := hp
  exact nomatch hfree.symm.trans hr

theorem keepsRetired_of_effect {c : Instr} (he : Effect s c u) (hc : c ≠ .powerOnReset)
    (hs : SparesMatchEntries s) : KeepsRetired s u := by
  have h : KeepsRetired s s := ⟨hs, fun _ _ hx => hx⟩
  have hu : SparesMatchEntries u := sparesMatch_of_effect he hs
  cases he
  case copyWithdrawn => exact (h.retryDecision _).frame rfl rfl
  case copyReadAnswer => exact KeepsRetired.copyReadAnswer (h.frame (by simp) (by simp)) ..
  case endOfCopy => exact KeepsRetired.endOfCopy (h.frame (by simp) (by simp)) _
  case fault => exact h.enterFault _
  case notReady => exact KeepsRetired.enterFault (h.frame (by simp) (by simp)) _
  case beginMigration q rest i cur nx _ _ _ hfree =>
    exact ⟨hu, fun b x hx => retired_of_free_changed hfree (beginMigration_spare (s.putQueue rest) q i cur nx b x) hx⟩
  case abort => exact h.abortMigration _ _
  case commit i _ _ _ _ _ _ => exact (h.commitSlot i).frame rfl rfl
  case discard i _ _ _ _ _ _ => exact (h.rollbackSlot i).frame rfl rfl
  case remapLoad home sp i _ _ hfree _ =>
    exact ⟨hu, fun b x hx => retired_of_free_changed hfree ((s.putSlot i _).spare_putSpare home.bank sp b x _) hx⟩
  case spareRetire bank idx hfree =>
    exact ⟨hu, fun b x hx => retired_of_free_changed hfree (s.spare_putSpare bank idx b x _) hx⟩
  case powerOn => exact absurd rfl hc
  case deviceReset =>
    refine deviceResetValues_induct (fun _ i hs => hs.rollbackSlot i) (fun _ _ h₁ h₂ hs => hs.frame h₁ (by rw [h₂]))
      _ _ ?_
    exact h.frame rfl rfl
  all_goals exact h.frame (by simp [upstreamReset, afterGrant]) (by simp [upstreamReset, afterGrant])

/-- Settles O17: a spare that an effect frees or allocates was ASSIGNED or FREE. -/
theorem retiredSparesStayRetired : Obligations.RetiredSparesStayRetired := by
  unfold Obligations.RetiredSparesStayRetired
  intro c s t hs h hc b x hx
  obtain ⟨u, m, w, he, -, rfl⟩ := exec_reaches h
  exact (keepsRetired_of_effect he hc hs).2 b x hx

end Sys2Proof.Proofs
end

section
/-! SUPPORT. Remap table, migration context and repair queue stay in agreement (R5, R7, R66), and the statement O7. -/

namespace Sys2Proof.Proofs

open Sys2Proof Sys2Proof.Machine Sys2Proof.Claims

variable {s u v : State} {i : Fin 128} {c : MigContext} {h : HomeRow}

/-! ### What an attribution appends to the repair queue (R50, R51, R67) -/

/-- The engine is as it was, or a request of the row, which was neither queued nor in migration, joins the queue. -/
def QueueGrows (s : State) (h : HomeRow) (u : State) : Prop :=
  u.mge = s.mge ∨
    (s.rowMigrating h = false ∧ s.isQueued h = false ∧ s.mge.queue.length < 8 ∧
      ∃ m, u.mge = { s.mge with queue := s.mge.queue ++ [⟨h, m, .auto⟩] })

theorem QueueGrows.congr (hg : QueueGrows v h u) (hr : v.rmt = s.rmt) (hm : v.mge = s.mge) : QueueGrows s h u := by
  simpa only [QueueGrows, hm, State.rowMigrating_congr hr h, State.isQueued_congr hm h] using hg

theorem candidateEvent_queueGrows (s : State) (h : HomeRow) : QueueGrows s h (s.candidateEvent h) := by
  unfold State.candidateEvent
  split
  · exact .inl rfl
  next hk =>
    obtain ⟨hr, hq⟩ : s.rowMigrating h = false ∧ s.isQueued h = false := by simpa using hk
    split
    next ha => exact .inr ⟨hr, hq, of_decide_eq_true (Bool.and_eq_true_iff.mp ha).2, _, rfl⟩
    · exact .inl (by simp)

theorem insertSuspect_queueGrows (s : State) (r : SuspectRecord) (rest : List SuspectRecord) :
    QueueGrows s r.home (s.insertSuspect r rest) := by
  unfold State.insertSuspect
  split
  · exact (candidateEvent_queueGrows (s.putSuspects ({ r with pinned := true } :: rest)) r.home).congr rfl rfl
  · exact .inl rfl

theorem suspectUpdate_queueGrows (s : State) (h : HomeRow) (ue : Bool) (o : SuspectOrigin) :
    QueueGrows s h (s.suspectUpdate h ue o) := by
  unfold State.suspectUpdate
  split
  next r hr =>
    have hh : (r.add ue o).home = h := by rw [add_eq, home_of_suspectOf hr]
    exact hh ▸ insertSuspect_queueGrows s (r.add ue o) _
  · split
    · exact insertSuspect_queueGrows s (.fresh h ue o) _
    · split
      · exact insertSuspect_queueGrows s (.fresh h ue o) _
      · exact .inl (by simp)

theorem attributeHost_queueGrows (s : State) (h : HomeRow) (st : AnswerStatus) :
    QueueGrows s h (s.attributeHost h st) := by
  cases st with
  | ok => exact .inl rfl
  | ce | ue => exact (suspectUpdate_queueGrows (s.bump _) h _ _).congr rfl rfl

theorem attributeScrub_queueGrows (s : State) (h : HomeRow) (line : Fin 32) (st : AnswerStatus) :
    QueueGrows s h (s.attributeScrub h line st) := by
  cases st with
  | ok => exact .inl rfl
  | ce => exact (suspectUpdate_queueGrows (s.bump _) h _ _).congr rfl rfl
  | ue =>
    have hg := (suspectUpdate_queueGrows (s.bump .scrubUe) h true .scrub).congr (s := s) rfl rfl
    simpa only [QueueGrows, State.attributeScrub, State.addLoss_frame] using hg

/-! ### Rows without a MOVING or HELD entry -/

/-- No entry of the row is MOVING or HELD. -/
def RowSettled (s : State) (h : HomeRow) : Prop :=
  ∀ (i : Fin 128) (e : RemapEntry), s.rmt[i] = some e → e.home = h → e.st.isMigrating = false

theorem rowMigrating_of_rowSettled (hs : RowSettled s h) : s.rowMigrating h = false := by
  refine rowMigrating_eq_false_iff.mpr fun e he => (isMigrating_eq_false_iff e.st).mp ?_
  obtain ⟨i, hi, hie⟩ := Option.bind_eq_some_iff.mp he
  exact hs i e hie (home_of_slotOf hi hie)

theorem rowSettled_of_rowMigrating (hd : HomesDistinct s) (hs : s.rowMigrating h = false) : RowSettled s h := by
  rintro i e he rfl
  obtain ⟨c, hc⟩ := rowMigrating_eq_false_iff.mp hs e ((entryOf_of_slotOf (slotOf_home hd he)).trans he)
  rw [hc]
  rfl

theorem repairCoherent_iff :
    RepairCoherent s ↔
      HomesDistinct s ∧ MovingMatchesContext s ∧ (s.mge.queue.map RepairRequest.home).Nodup ∧
        ∀ q ∈ s.mge.queue, RowSettled s q.home :=
  and_congr_right fun hd => and_congr_right fun _ => and_congr_right fun _ => forall₂_congr fun _ _ =>
    ⟨rowSettled_of_rowMigrating hd, rowMigrating_of_rowSettled⟩

/-! ### What the relations read -/

/-- The part of a context that its entry agrees with. -/
def ctxKey (c : MigContext) : Fin 128 × HomeRow × Fin 16 := (c.slot, c.home, c.target)

theorem movingMatchesContext_congr (hm : MovingMatchesContext s) (hr : u.rmt = s.rmt)
    (hk : u.mge.ctx.map ctxKey = s.mge.ctx.map ctxKey) : MovingMatchesContext u := by
  unfold MovingMatchesContext at hm ⊢
  rw [hr]
  cases hu : u.mge.ctx with
  | none =>
    rw [hu, Option.map_none, eq_comm, Option.map_eq_none_iff] at hk
    rwa [hk] at hm
  | some c =>
    cases hs : s.mge.ctx with
    | none => simp [hu, hs] at hk
    | some c' =>
      simp only [hu, hs, Option.map_some, Option.some.injEq, ctxKey, Prod.mk.injEq] at hk hm ⊢
      simpa [hk] using hm

theorem repairCoherent_congr (hs : RepairCoherent s) (hr : u.rmt = s.rmt)
    (hk : u.mge.ctx.map ctxKey = s.mge.ctx.map ctxKey) (hq : u.mge.queue = s.mge.queue) :
    RepairCoherent u := by
  obtain ⟨hd, hm, hsettled⟩ := hs
  refine ⟨by simpa only [HomesDistinct, hr] using hd, movingMatchesContext_congr hm hr hk, ?_⟩
  simpa only [QueueSettled, hq, State.rowMigrating_congr hr] using hsettled

/-- A queue that loses requests stays settled. -/
theorem repairCoherent_sublist (hs : RepairCoherent s) (hr : u.rmt = s.rmt) (hc : u.mge.ctx = s.mge.ctx)
    (hq : u.mge.queue.Sublist s.mge.queue) : RepairCoherent u := by
  obtain ⟨hd, hm, hnodup, hsettled⟩ := hs
  refine ⟨by simpa only [HomesDistinct, hr] using hd, movingMatchesContext_congr hm hr (by rw [hc]),
    hnodup.sublist (hq.map _), fun q hq' => ?_⟩
  rw [State.rowMigrating_congr hr]
  exact hsettled q (hq.subset hq')

/-- R66: a request joins the queue where its row is neither queued nor in migration. -/
theorem repairCoherent_append {q : RepairRequest} (hs : RepairCoherent s) (hr : u.rmt = s.rmt)
    (hu : u.mge = { s.mge with queue := s.mge.queue ++ [q] }) (hq : s.isQueued q.home = false)
    (hm : s.rowMigrating q.home = false) : RepairCoherent u := by
  obtain ⟨hd, hmov, hnodup, hsettled⟩ := hs
  refine ⟨by simpa only [HomesDistinct, hr] using hd, movingMatchesContext_congr hmov hr (by rw [hu]), ?_, ?_⟩
  · rw [hu, List.map_append, List.nodup_append]
    refine ⟨hnodup, by simp, ?_⟩
    rintro a ha b hb rfl
    obtain ⟨x, hx, rfl⟩ := List.mem_map.mp ha
    obtain ⟨y, hy, he⟩ := List.mem_map.mp hb
    obtain rfl := List.mem_singleton.mp hy
    exact isQueued_eq_false_iff.mp hq x hx he.symm
  · rw [hu]
    intro x hx
    rw [State.rowMigrating_congr hr]
    rcases List.mem_append.mp hx with hx | hx
    · exact hsettled x hx
    · exact List.mem_singleton.mp hx ▸ hm

theorem repairCoherent_queueGrows (hs : RepairCoherent s) (hg : QueueGrows s h u) (hr : u.rmt = s.rmt) :
    RepairCoherent u := by
  rcases hg with he | ⟨hm, hq, -, m, hu⟩
  · exact repairCoherent_congr hs hr (by rw [he]) (by rw [he])
  · exact repairCoherent_append hs hr hu hq hm

/-! ### A change of one slot -/

section Slot

variable {new : Option RemapEntry} (hrmt : ∀ j, u.rmt[j] = if j = i then new else s.rmt[j])
include hrmt

theorem homesDistinct_update (hd : HomesDistinct s)
    (hnew : ∀ e ∈ new, ∀ j ≠ i, ∀ e' ∈ s.rmt[j], e'.home ≠ e.home) : HomesDistinct u := by
  intro j e he k e' he' hh
  rw [hrmt] at he he'
  split at he <;> split at he'
  next hj hk => exact hj.trans hk.symm
  next hj hk => exact absurd hh.symm (hnew e he k hk e' he')
  next hj hk => exact absurd hh (hnew e' he' j hj e he)
  · exact hd j e he k e' he' hh

theorem rowSettled_update (hs : RowSettled s h) (hnew : ∀ e ∈ new, e.home = h → e.st.isMigrating = false) :
    RowSettled u h := by
  intro j e he hh
  rw [hrmt] at he
  split at he
  · exact hnew e he hh
  · exact hs j e he hh

/-- The context's entry leaves MOVING as the context becomes idle. -/
theorem moving_settled (hm : MovingMatchesContext s) (hc : s.mge.ctx = some c) (hi : i = c.slot)
    (hu : u.mge.ctx = none) (hnew : ∀ e ∈ new, e.st.isMoving = false) : MovingMatchesContext u := by
  refine ⟨fun j e he hmov => ?_, fun c' hc' => by simp [hu] at hc'⟩
  rw [hrmt] at he
  split at he
  · simp [hnew e he] at hmov
  next hj =>
    obtain ⟨c', hc', rfl⟩ := hm.1 j e he hmov
    obtain rfl := Option.some.inj (hc.symm.trans hc')
    exact absurd hi.symm hj

/-- A slot outside the migration in progress changes between states that are not MOVING. -/
theorem moving_elsewhere (hm : MovingMatchesContext s) (hu : u.mge.ctx = s.mge.ctx)
    (hold : ∀ e ∈ s.rmt[i], e.st.isMoving = false) (hnew : ∀ e ∈ new, e.st.isMoving = false) :
    MovingMatchesContext u := by
  refine ⟨fun j e he hmov => ?_, fun c hc => ?_⟩
  · rw [hrmt] at he
    split at he
    · simp [hnew e he] at hmov
    · exact hu ▸ hm.1 j e he hmov
  · obtain ⟨e, he, hh, hmov, hn⟩ := hm.2 c (hu ▸ hc)
    refine ⟨e, ?_, hh, hmov, hn⟩
    rw [hrmt, if_neg]
    · exact he
    · rintro rfl
      simp [hold e he] at hmov

/-- The context becomes busy with the entry that becomes MOVING. -/
theorem moving_begins {e : RemapEntry} (hm : MovingMatchesContext s) (hc : s.mge.ctx = none)
    (hu : u.mge.ctx = some c) (hi : c.slot = i) (hn : new = some e) (hh : e.home = c.home)
    (hmov : e.st.isMoving = true) (hnext : e.st.next = some c.target) : MovingMatchesContext u := by
  refine ⟨fun j e' he' hmov' => ?_, fun c' hc' => ?_⟩
  · rw [hrmt] at he'
    split at he'
    next hj => exact ⟨c, hu, hi.trans hj.symm⟩
    · obtain ⟨c', hc', -⟩ := hm.1 j e' he' hmov'
      exact nomatch hc.symm.trans hc'
  · obtain rfl := Option.some.inj (hu.symm.trans hc')
    refine ⟨e, ?_, hh, hmov, hnext⟩
    rw [hrmt, if_pos hi, hn]
    rfl

end Slot

/-- R5: an entry that replaces one of its own row keeps the home rows distinct. -/
theorem homes_of_same {e : RemapEntry} (hd : HomesDistinct s) (hi : s.rmt[i] = some e) :
    ∀ j ≠ i, ∀ e' ∈ s.rmt[j], e'.home ≠ e.home :=
  fun j hj e' he' hh => hj (hd j e' he' i e hi hh)

theorem isMoving_rolledBack {cur : Option (Fin 16)} {e : RemapEntry}
    (he : e ∈ cur.map fun x => RemapEntry.mk h (.active x)) : e.home = h ∧ e.st.isMigrating = false := by
  obtain ⟨x, -, rfl⟩ := Option.map_eq_some_iff.mp he
  exact ⟨rfl, rfl⟩

theorem isMoving_of_settled {st : EntryState} (hm : st.isMigrating = false) : st.isMoving = false := by
  cases st <;> simp_all [EntryState.isMigrating, EntryState.isMoving]

/-- The entry of the context: MOVING, of the context's row, to its target (Table 4-4). -/
theorem entry_of_ctx (hm : MovingMatchesContext s) (hc : s.mge.ctx = some c) :
    ∃ cur, s.rmt[c.slot] = some ⟨c.home, .moving cur c.target⟩ := by
  obtain ⟨⟨home, st⟩, he, rfl, hmov, hn⟩ := hm.2 c hc
  obtain ⟨cur, nx, rfl⟩ := (isMoving_iff st).mp hmov
  obtain rfl : nx = c.target := Option.some.inj hn
  exact ⟨cur, he⟩

/-! ### The operations that end a migration -/

/-- The entry in migration ends as one that is not, or as a HELD one, with the context idle. -/
theorem repairCoherent_ends {e : RemapEntry} {new : Option RemapEntry}
    (hs : RepairCoherent s) (hc : s.mge.ctx = some c) (hi : s.rmt[c.slot] = some e)
    (hrmt : ∀ j, u.rmt[j] = if j = c.slot then new else s.rmt[j])
    (hnew : ∀ e' ∈ new, e'.home = e.home ∧ e'.st.isMoving = false) (hu : u.mge.ctx = none)
    (hq : u.mge.queue = s.mge.queue) : RepairCoherent u := by
  obtain ⟨hd, hm, hnodup, hsettled⟩ := repairCoherent_iff.mp hs
  obtain ⟨cur, he⟩ := entry_of_ctx hm hc
  obtain rfl := Option.some.inj (hi.symm.trans he)
  refine repairCoherent_iff.mpr ⟨homesDistinct_update hrmt hd fun e' he' => ?_,
    moving_settled hrmt hm hc rfl hu fun e' he' => (hnew e' he').2, hq ▸ hnodup, fun q hq' => ?_⟩
  · rw [(hnew e' he').1]
    exact homes_of_same hd hi
  · have hq'' := hsettled q (hq ▸ hq')
    refine rowSettled_update hrmt hq'' fun e' he' hh => ?_
    exact nomatch hq'' c.slot _ hi ((hnew e' he').1.symm.trans hh)

theorem repairCoherent_abortMigration (hs : RepairCoherent s) (o : MigOutcome) (a : Bool) :
    RepairCoherent (s.abortMigration o a) := by
  cases hc : s.mge.ctx with
  | none => exact (abortMigration_of_idle hc o a).symm ▸ hs
  | some c =>
    obtain ⟨cur, hi⟩ := entry_of_ctx hs.2.1 hc
    refine repairCoherent_ends (new := cur.map fun x => ⟨c.home, .active x⟩) hs hc hi (fun j => ?_)
      (fun e' he' => ⟨(isMoving_rolledBack he').1, isMoving_of_settled (isMoving_rolledBack he').2⟩) (by simp) (by simp)
    rw [(abortMigration_tables hc o a).1]
    exact rollbackSlot_rmt hi rfl j

theorem repairCoherent_retryDecision (hs : RepairCoherent s) {c' : MigContext} (hc : s.mge.ctx = some c)
    (hk : ctxKey c' = ctxKey c) : RepairCoherent (s.retryDecision c') := by
  unfold State.retryDecision
  split
  · exact repairCoherent_abortMigration (repairCoherent_congr hs (by simp) (by simp [hc, hk]) (by simp)) _ _
  · have hr : ctxKey c'.retry = ctxKey c' := rfl
    exact repairCoherent_congr hs rfl (by simp [hc, hk, hr]) rfl

theorem repairCoherent_copyReadAnswer (hs : RepairCoherent s) (hc : s.mge.ctx = some c) (e : FifoEntry)
    (st : AnswerStatus) (data : List Byte) : RepairCoherent (s.copyReadAnswer c e st data) := by
  have hf : ctxKey (c.filled data) = ctxKey c := rfl
  have hp : ctxKey c.poison = ctxKey c := rfl
  unfold State.copyReadAnswer
  split
  · exact repairCoherent_retryDecision hs hc rfl
  · cases st with
    | ok | ce => exact repairCoherent_congr hs rfl (by simp [hc, hf]) rfl
    | ue => exact repairCoherent_congr hs (by simp) (by simp [hc, hp]) (by simp)

theorem repairCoherent_endOfCopy (hs : RepairCoherent s) (hc : s.mge.ctx = some c) :
    RepairCoherent (s.endOfCopy c) := by
  obtain ⟨cur, hi⟩ := entry_of_ctx hs.2.1 hc
  cases hm : c.mode with
  | hold =>
    rw [endOfCopy_holds hm hi]
    refine repairCoherent_ends hs hc hi (s.rmt_putSlot c.slot · _) (fun e' he' => ?_) rfl rfl
    obtain rfl := Option.some.inj he'
    exact ⟨rfl, rfl⟩
  | autoCommit =>
    rw [endOfCopy_commits hm hi]
    refine repairCoherent_ends hs hc hi (s.rmt_putSlot c.slot · _) (fun e' he' => ?_) rfl rfl
    obtain rfl := Option.some.inj he'
    exact ⟨rfl, rfl⟩

theorem repairCoherent_enterFault (hs : RepairCoherent s) (reason : FaultReason) :
    RepairCoherent (s.enterFault reason) := by
  have hf : RepairCoherent (((s.failHost.faultPort reason).bump .dlinkFaults).raise .link) :=
    repairCoherent_congr hs (by simp) (by simp) (by simp)
  exact repairCoherent_congr (repairCoherent_abortMigration hf .abortedDownstream true) (by simp [State.enterFault])
    (by simp [State.enterFault]) (by simp [State.enterFault])

/-! ### The other changes of a slot -/

/-- COMMIT and DISCARD settle a HELD entry, which no context holds. -/
theorem repairCoherent_settles {e : RemapEntry} {cur : Option (Fin 16)} {nx : Fin 16} {new : Option RemapEntry}
    (hs : RepairCoherent s) (hi : s.rmt[i] = some e) (hst : e.st = .held cur nx)
    (hrmt : ∀ j, u.rmt[j] = if j = i then new else s.rmt[j])
    (hnew : ∀ e' ∈ new, e'.home = e.home ∧ e'.st.isMigrating = false) (hc : u.mge.ctx = s.mge.ctx)
    (hq : u.mge.queue = s.mge.queue) : RepairCoherent u := by
  obtain ⟨hd, hm, hnodup, hsettled⟩ := repairCoherent_iff.mp hs
  refine repairCoherent_iff.mpr ⟨homesDistinct_update hrmt hd fun e' he' => ?_,
    moving_elsewhere hrmt hm hc (fun e' he' => ?_) fun e' he' => isMoving_of_settled (hnew e' he').2,
    hq ▸ hnodup, fun q hq' => ?_⟩
  · rw [(hnew e' he').1]
    exact homes_of_same hd hi
  · obtain rfl := Option.some.inj (hi.symm.trans he')
    rw [hst]
    rfl
  · exact rowSettled_update hrmt (hsettled q (hq ▸ hq')) fun e' he' _ => (hnew e' he').2

theorem repairCoherent_remapLoad {sp : Fin 16} (hs : RepairCoherent s) (hslot : s.slotOf h = none)
    (hempty : s.rmt[i] = none) :
    RepairCoherent ((s.putSlot i (some ⟨h, .active sp⟩)).putSpare h.bank sp .assigned) := by
  obtain ⟨hd, hm, hnodup, hsettled⟩ := repairCoherent_iff.mp hs
  have hrmt := (s.rmt_putSlot i · (some ⟨h, .active sp⟩))
  refine repairCoherent_iff.mpr ⟨homesDistinct_update hrmt hd fun e' he' j _ => ?_,
    moving_elsewhere hrmt hm rfl (by simp [hempty]) fun e' he' => ?_, hnodup, fun q hq =>
      rowSettled_update hrmt (hsettled q hq) fun e' he' _ => ?_⟩ <;> obtain rfl := Option.some.inj he'
  · exact State.slotOf_none.mp hslot j
  · rfl
  · rfl

theorem repairCoherent_beginMigration {q : RepairRequest} {rest : List RepairRequest} {cur : Option (Fin 16)}
    {nx : Fin 16} (hs : RepairCoherent s) (hq : s.mge.queue = q :: rest) (hc : s.mge.ctx = none)
    (hst : StartsIn s q.home i cur) : RepairCoherent ((s.putQueue rest).beginMigration q i cur nx) := by
  obtain ⟨hd, hm, hnodup, hsettled⟩ := repairCoherent_iff.mp hs
  rw [hq, List.map_cons, List.nodup_cons] at hnodup
  have hrmt := beginMigration_rmt (s.putQueue rest) q i cur nx
  have hmge : ((s.putQueue rest).beginMigration q i cur nx).mge =
      { s.mge with queue := rest, ctx := some (.begin i ((s.putQueue rest).currentLoc q.home) nx q) } := by
    simp [State.beginMigration]
  refine repairCoherent_iff.mpr ⟨homesDistinct_update hrmt hd fun e' he' => ?_,
    moving_begins hrmt hm hc (by rw [hmge]) rfl rfl rfl rfl rfl, by rw [hmge]; exact hnodup.2, fun q' hq' => ?_⟩
  · obtain rfl := Option.some.inj he'
    rcases hst with ⟨-, hslot, -⟩ | ⟨x, -, -, hx⟩
    · exact fun j _ => State.slotOf_none.mp hslot j
    · exact homes_of_same (e := ⟨q.home, .active x⟩) hd hx
  · rw [hmge] at hq'
    refine rowSettled_update hrmt (hsettled q' (hq ▸ List.mem_cons_of_mem _ hq')) fun e' he' hh => ?_
    obtain rfl := Option.some.inj he'
    exact absurd (List.mem_map.mpr ⟨q', hq', hh.symm⟩) hnodup.1

/-- What a device reset needs of the tables: distinct home rows, and no entry left MOVING. -/
def NoneMoving (s : State) : Prop :=
  HomesDistinct s ∧ ∀ (i : Fin 128) (e : RemapEntry), s.rmt[i] = some e → e.st.isMoving = false

theorem noneMoving_rollbackSlot (hs : NoneMoving s) (i : Fin 128) : NoneMoving (s.rollbackSlot i) := by
  rcases migration_or_settled s i with ⟨e, cur, nx, hi, hm⟩ | hsettled
  · have hrmt := rollbackSlot_rmt hi hm
    refine ⟨homesDistinct_update hrmt hs.1 fun e' he' => ?_, fun j e' he' => ?_⟩
    · rw [(isMoving_rolledBack he').1]
      exact homes_of_same hs.1 hi
    · rw [hrmt] at he'
      split at he'
      · exact isMoving_of_settled (isMoving_rolledBack he').2
      · exact hs.2 j e' he'
  · rwa [rollbackSlot_of_settled hsettled]

theorem noneMoving_of_idle (hs : RepairCoherent s) (hc : s.mge.ctx = none) : NoneMoving s := by
  refine ⟨hs.1, fun i e he => ?_⟩
  rw [Bool.eq_false_iff]
  intro hmov
  obtain ⟨c, hc', -⟩ := hs.2.1.1 i e he hmov
  exact nomatch hc.symm.trans hc'

theorem repairCoherent_deviceResetValues (hs : RepairCoherent s) (kind : ResetKind) (hold : Option Interval) :
    RepairCoherent (s.deviceResetValues kind hold) := by
  obtain ⟨-, -, hrmt, -, -, hmge, -⟩ := deviceResetValues_blocks s kind hold
  have hn : NoneMoving (resetTables s) :=
    resetEntries_induct (fun _ i h => noneMoving_rollbackSlot h i)
      (fun _ _ h₁ _ _ h => by simpa only [NoneMoving, HomesDistinct, h₁] using h)
      (noneMoving_of_idle (repairCoherent_abortMigration hs .abortedReset false) (by simp))
  obtain ⟨hd, hmov⟩ := hn
  refine ⟨by simpa only [HomesDistinct, hrmt] using hd, ⟨fun i e he hm => ?_, by simp [hmge]⟩, ?_⟩
  · rw [hrmt] at he
    simp [hmov i e he] at hm
  · simp [QueueSettled, hmge]

theorem repairCoherent_powerOnValues (s : State) : RepairCoherent s.powerOnValues := by
  have hr : ∀ j : Fin 128, s.powerOnValues.rmt[j] = none := fun j => by simp [State.powerOnValues, State.reset]
  have hm : s.powerOnValues.mge = { queue := [], ctx := none, last := none } := rfl
  simp [RepairCoherent, HomesDistinct, MovingMatchesContext, QueueSettled, hr, hm]

/-! ### Every command -/

@[simp] theorem startFailure_ctx (s : State) (q : RepairRequest) (o : MigOutcome) :
    (s.startFailure q o).mge.ctx = s.mge.ctx ∧ (s.startFailure q o).mge.queue = s.mge.queue := ⟨rfl, rfl⟩

/-- A host write notice keeps the context's slot, row and target (R77). -/
theorem migNotice_key (s : State) (h : HomeRow) (line : Fin 32) :
    (s.migNotice h line).mge.ctx.map ctxKey = s.mge.ctx.map ctxKey ∧
      (s.migNotice h line).mge.queue = s.mge.queue := by
  cases hc : s.mge.ctx with
  | none => simp [State.migNotice, hc]
  | some c =>
    simp only [State.migNotice, hc]
    split
    · exact ⟨rfl, rfl⟩
    · rw [hc]
      exact ⟨rfl, rfl⟩

theorem writeNotice_key (s : State) (r : HostRecord) :
    (s.writeNotice r).mge.ctx.map ctxKey = s.mge.ctx.map ctxKey ∧
      (s.writeNotice r).mge.queue = s.mge.queue := by
  unfold State.writeNotice
  split
  · exact ⟨rfl, rfl⟩
  · simp [migNotice_key]

theorem hostGrant_key (s : State) :
    s.hostGrant.mge.ctx.map ctxKey = s.mge.ctx.map ctxKey ∧
      s.hostGrant.mge.queue = s.mge.queue := by
  unfold State.hostGrant
  split
  · exact ⟨rfl, rfl⟩
  · dsimp only
    split
    · exact ⟨rfl, rfl⟩
    · simp [writeNotice_key]

theorem repairCoherent_of_effect {c : Instr} (he : Effect s c u) (hs : RepairCoherent s) : RepairCoherent u := by
  cases he
  case hostGrant => exact repairCoherent_congr hs (by simp [afterGrant]) (hostGrant_key s).1 (hostGrant_key s).2
  case copyReadIssue hctx _ _ _ => exact repairCoherent_congr hs rfl (by rw [hctx]; rfl) rfl
  case copyWithdrawn hctx _ _ _ => exact repairCoherent_retryDecision hs hctx rfl
  case copyWriteIssue hctx _ _ _ _ => exact repairCoherent_congr hs rfl (by rw [hctx]; rfl) rfl
  case hostAnswer e rest tag _ st data _ _ _ _ =>
    have hp : RepairCoherent ((s.popFifo rest).hostAnswer tag st data) :=
      repairCoherent_congr hs (by simp) (by simp) (by simp)
    exact repairCoherent_queueGrows hp (attributeHost_queueGrows _ e.home st) (by simp)
  case orphanAnswer e rest tag _ st _ _ _ _ =>
    have hp : RepairCoherent ((s.popFifo rest).orphanAnswer tag) :=
      repairCoherent_congr hs (by simp) (by simp) (by simp)
    exact repairCoherent_queueGrows hp (attributeHost_queueGrows _ e.home st) (by simp)
  case copyReadAnswer hctx _ => exact repairCoherent_copyReadAnswer (s := s.popFifo _) hs hctx _ _ _
  case endOfCopy hctx _ => exact repairCoherent_endOfCopy (s := s.popFifo _) hs hctx
  case scrubAttributed e rest st _ _ _ =>
    exact repairCoherent_queueGrows hs (attributeScrub_queueGrows (s.popFifo rest) e.home e.line st) (by simp)
  case scrubReadAnswer e rest l st data _ _ _ _ _ =>
    have hp := repairCoherent_queueGrows hs (attributeScrub_queueGrows (s.popFifo rest) e.home e.line st) (by simp)
    exact repairCoherent_congr hp (by simp) (by simp) (by simp)
  case fault => exact repairCoherent_enterFault hs _
  case notReady =>
    refine repairCoherent_enterFault ?_ _
    exact hs
  case startFailure hq =>
    refine repairCoherent_sublist hs rfl rfl ?_
    rw [hq]
    exact List.sublist_cons_self ..
  case beginMigration hq hctx hstart _ => exact repairCoherent_beginMigration hs hq hctx hstart
  case repairRequest hqueued hrow _ => exact repairCoherent_append hs rfl rfl hqueued hrow
  case repairCancel => exact repairCoherent_sublist hs rfl rfl List.filter_sublist
  case abort => exact repairCoherent_abortMigration hs _ _
  case commit hi hst =>
    have hm : EntryState.migration _ = some _ := (migration_eq_some_iff _).mpr (.inr hst)
    refine repairCoherent_settles hs hi hst (commitSlot_rmt hi hm) (fun e' he' => ?_) (by simp) (by simp)
    obtain rfl := Option.some.inj he'
    exact ⟨rfl, rfl⟩
  case discard hi hst =>
    have hm : EntryState.migration _ = some _ := (migration_eq_some_iff _).mpr (.inr hst)
    exact repairCoherent_settles hs hi hst (rollbackSlot_rmt hi hm) (fun e' he' => isMoving_rolledBack he')
      (by simp) (by simp)
  case remapLoad hslot _ hempty => exact repairCoherent_remapLoad hs hslot hempty
  case powerOn => exact repairCoherent_powerOnValues s
  case deviceReset =>
    refine repairCoherent_deviceResetValues ?_ _ _
    exact hs
  all_goals
    refine repairCoherent_congr hs ?_ ?_ ?_ <;> simp [upstreamReset, afterGrant]

/-- Settles O7: each effect changes at most one slot, the context with it, and the queue by one request. -/
theorem repairStaysCoherent : Obligations.RepairStaysCoherent :=
  keptByStep_of_effect (fun _ _ _ _ h => h) (fun _ hs => repairCoherent_congr hs (by simp) (by simp) (by simp))
    fun _ _ _ => repairCoherent_of_effect

end Sys2Proof.Proofs
end

section
/-! SUPPORT. Suspect list, loss list and repair queue stay within their capacities (R45, R58, R66), and the statement
O6. -/

namespace Sys2Proof.Proofs

open Sys2Proof Sys2Proof.Machine Sys2Proof.Claims

variable {s u : State} {h : HomeRow} {l rest : List SuspectRecord} {r : SuspectRecord}

/-! ### The suspect list -/

/-- A suspect list within its capacity, with one record per home row and counts in range (R45, Table 3-3). -/
def SuspectsBounded (l : List SuspectRecord) : Prop :=
  l.length ≤ 32 ∧ (l.map SuspectRecord.home).Nodup ∧ ∀ r ∈ l, r.inRange

theorem listsBounded_iff :
    ListsBounded s ↔ SuspectsBounded s.emn.suspects ∧ s.emn.losses.length ≤ 8 ∧ s.mge.queue.length ≤ 8 := by
  simp only [ListsBounded, SuspectsBounded, and_assoc]

theorem suspectsBounded_sublist (hl : SuspectsBounded l) (hs : rest.Sublist l) : SuspectsBounded rest := by
  obtain ⟨hlen, hnodup, hrange⟩ := hl
  exact ⟨hs.length_le.trans hlen, (hs.map _).nodup hnodup, fun r hr => hrange r (hs.subset hr)⟩

/-- A change of counts and flags that keeps the home rows and the ranges. -/
theorem suspectsBounded_map (hl : SuspectsBounded l) {f : SuspectRecord → SuspectRecord}
    (hhome : ∀ r, (f r).home = r.home) (hrange : ∀ r, r.inRange → (f r).inRange) : SuspectsBounded (l.map f) := by
  obtain ⟨hlen, hnodup, hall⟩ := hl
  have hmap : (l.map f).map SuspectRecord.home = l.map SuspectRecord.home := by simp [hhome]
  refine ⟨by simpa using hlen, hmap ▸ hnodup, fun r hr => ?_⟩
  obtain ⟨x, hx, rfl⟩ := List.mem_map.mp hr
  exact hrange x (hall x hx)

theorem suspectsBounded_cons (hl : SuspectsBounded rest) (hroom : rest.length < 32)
    (hnew : ∀ x ∈ rest, x.home ≠ r.home) (hr : r.inRange) : SuspectsBounded (r :: rest) := by
  obtain ⟨-, hnodup, hall⟩ := hl
  refine ⟨hroom, List.nodup_cons.mpr ⟨fun hm => ?_, hnodup⟩, List.forall_mem_cons.mpr ⟨hr, hall⟩⟩
  obtain ⟨x, hx, hh⟩ := List.mem_map.mp hm
  exact hnew x hx hh

theorem unpin_home (h : HomeRow) (r : SuspectRecord) :
    (if r.home = h then { r with pinned := false } else r).home = r.home := by
  split <;> rfl

theorem unpin_inRange (h : HomeRow) (hr : r.inRange) :
    (if r.home = h then { r with pinned := false } else r).inRange := by
  split <;> exact hr

theorem decay_home (r : SuspectRecord) : r.decay.home = r.home := by
  unfold SuspectRecord.decay
  split <;> rfl

theorem decay_inRange (hr : r.inRange) : r.decay.inRange := by
  obtain ⟨hce, hue⟩ := hr
  unfold SuspectRecord.decay
  split
  · exact ⟨hce, hue⟩
  · exact ⟨(Nat.div_le_self _ 2).trans hce, hue⟩

theorem add_inRange (hr : r.inRange) (ue : Bool) (o : SuspectOrigin) : (r.add ue o).inRange := by
  obtain ⟨hce, hue⟩ := hr
  cases ue
  · exact ⟨Nat.min_le_left .., hue⟩
  · exact ⟨hce, Nat.min_le_left ..⟩

theorem fresh_inRange (h : HomeRow) (ue : Bool) (o : SuspectOrigin) : (SuspectRecord.fresh h ue o).inRange := by
  cases ue <;> simp [SuspectRecord.inRange, SuspectRecord.fresh]

/-- An eviction removes one record and keeps the order of the others (R48). -/
theorem sublist_of_evictUnpinned (he : evictUnpinned l = some rest) :
    rest.Sublist l ∧ rest.length + 1 = l.length := by
  induction l generalizing rest with
  | nil => cases he
  | cons r l ih =>
    unfold evictUnpinned at he
    split at he
    next rest' hrest =>
      obtain rfl := Option.some.inj he
      obtain ⟨hsub, hlen⟩ := ih hrest
      exact ⟨hsub.cons_cons r, by simpa using hlen⟩
    · obtain ⟨-, hrest⟩ := Option.ite_none_left_eq_some.mp he
      obtain rfl := Option.some.inj hrest
      exact ⟨List.sublist_cons_self .., rfl⟩

/-- The pin check changes the flag of the record alone (R49). -/
theorem insertSuspect_suspects (s : State) (r : SuspectRecord) (rest : List SuspectRecord) :
    ∃ pinned, (s.insertSuspect r rest).emn.suspects = { r with pinned := pinned } :: rest := by
  unfold State.insertSuspect
  split
  · exact ⟨true, by simp⟩
  · exact ⟨r.pinned, rfl⟩

theorem suspectsBounded_insertSuspect (hl : SuspectsBounded rest) (hroom : rest.length < 32)
    (hnew : ∀ x ∈ rest, x.home ≠ r.home) (hr : r.inRange) :
    SuspectsBounded (s.insertSuspect r rest).emn.suspects := by
  obtain ⟨pinned, he⟩ := insertSuspect_suspects s r rest
  rw [he]
  exact suspectsBounded_cons hl hroom hnew hr

theorem suspectsBounded_suspectUpdate (hs : SuspectsBounded s.emn.suspects) (h : HomeRow) (ue : Bool)
    (o : SuspectOrigin) : SuspectsBounded (s.suspectUpdate h ue o).emn.suspects := by
  cases hx : s.suspectOf h with
  | some x =>
    have hmem : x ∈ s.emn.suspects := List.mem_of_find?_eq_some hx
    have hout : ∃ y ∈ s.emn.suspects, ¬decide (y.home ≠ h) = true := ⟨x, hmem, by simp [home_of_suspectOf hx]⟩
    have hroom : (s.emn.suspects.filter fun y => y.home ≠ h).length < 32 :=
      (List.length_filter_lt_length_iff_exists.mpr hout).trans_le hs.1
    rw [suspectUpdate_of_known hx]
    refine suspectsBounded_insertSuspect (suspectsBounded_sublist hs List.filter_sublist) hroom (fun y hy => ?_)
      (add_inRange (hs.2.2 x hmem) ue o)
    rw [add_eq, home_of_suspectOf hx]
    simpa using (List.mem_filter.mp hy).2
  | none =>
    have hnew := suspectOf_eq_none_iff.mp hx
    rcases Nat.lt_or_ge s.emn.suspects.length 32 with hl | hl
    · rw [suspectUpdate_of_room hx hl]
      exact suspectsBounded_insertSuspect hs hl hnew (fresh_inRange h ue o)
    · cases he : evictUnpinned s.emn.suspects with
      | none => exact suspectUpdate_of_not_evicted hx hl he ▸ hs
      | some rest =>
        obtain ⟨hsub, hlen⟩ := sublist_of_evictUnpinned he
        rw [suspectUpdate_of_evicted hx hl he]
        exact suspectsBounded_insertSuspect (suspectsBounded_sublist hs hsub)
          (by have := hs.1; omega) (fun y hy => hnew y (hsub.subset hy)) (fresh_inRange h ue o)

/-! ### The three lists -/

theorem listsBounded_congr (hs : ListsBounded s) (he : u.emn.suspects = s.emn.suspects)
    (hl : u.emn.losses = s.emn.losses) (hq : u.mge.queue = s.mge.queue) : ListsBounded u := by
  rw [listsBounded_iff] at hs ⊢
  rwa [he, hl, hq]

/-- What a rollback, a commit or an attribution leaves of the suspect list. -/
theorem listsBounded_suspects (hs : ListsBounded s) (he : SuspectsBounded u.emn.suspects)
    (hl : u.emn.losses = s.emn.losses) (hq : u.mge.queue = s.mge.queue) : ListsBounded u := by
  rw [listsBounded_iff] at hs ⊢
  obtain ⟨-, hlosses, hqueue⟩ := hs
  exact ⟨he, hl ▸ hlosses, hq ▸ hqueue⟩

theorem listsBounded_queue (hs : ListsBounded s) (he : u.emn = s.emn) (hq : u.mge.queue.length ≤ 8) :
    ListsBounded u := by
  rw [listsBounded_iff] at hs ⊢
  obtain ⟨hsusp, hlosses, -⟩ := hs
  exact ⟨he ▸ hsusp, he ▸ hlosses, hq⟩

theorem addLoss_suspects (s : State) (h : HomeRow) (line : Fin 32) (o : LossOrigin) :
    (s.addLoss h line o).emn.suspects = s.emn.suspects := by
  unfold State.addLoss
  split <;> rfl

theorem length_losses_addLoss (hs : s.emn.losses.length ≤ 8) (h : HomeRow) (line : Fin 32) (o : LossOrigin) :
    (s.addLoss h line o).emn.losses.length ≤ 8 := by
  rcases Nat.lt_or_ge s.emn.losses.length 8 with hl | hl
  · rw [addLoss_of_room hl]
    simpa using hl
  · rw [addLoss_of_full hl]
    exact hs

theorem listsBounded_addLoss (hs : ListsBounded s) (h : HomeRow) (line : Fin 32) (o : LossOrigin) :
    ListsBounded (s.addLoss h line o) := by
  rw [listsBounded_iff] at hs ⊢
  obtain ⟨hsusp, hlosses, hqueue⟩ := hs
  exact ⟨addLoss_suspects s h line o ▸ hsusp, length_losses_addLoss hlosses h line o, by simpa using hqueue⟩

theorem length_queue_of_queueGrows (hg : QueueGrows s h u) (hq : s.mge.queue.length ≤ 8) :
    u.mge.queue.length ≤ 8 := by
  rcases hg with he | ⟨-, -, hl, m, he⟩
  · rwa [he]
  · rw [he]
    simpa using hl

theorem listsBounded_suspectUpdate (hs : ListsBounded s) (h : HomeRow) (ue : Bool) (o : SuspectOrigin) :
    ListsBounded (s.suspectUpdate h ue o) := by
  rw [listsBounded_iff] at hs ⊢
  obtain ⟨hsusp, hlosses, hqueue⟩ := hs
  exact ⟨suspectsBounded_suspectUpdate hsusp h ue o, (suspectUpdate_losses s h ue o).1 ▸ hlosses,
    length_queue_of_queueGrows (suspectUpdate_queueGrows s h ue o) hqueue⟩

theorem listsBounded_bump (hs : ListsBounded s) (k : Counter) : ListsBounded (s.bump k) := hs

theorem listsBounded_attributeHost (hs : ListsBounded s) (h : HomeRow) (st : AnswerStatus) :
    ListsBounded (s.attributeHost h st) := by
  cases st with
  | ok => exact hs
  | ce => exact listsBounded_suspectUpdate (listsBounded_bump hs .hostCe) h _ _
  | ue => exact listsBounded_suspectUpdate (listsBounded_bump hs .hostUe) h _ _

theorem listsBounded_attributeScrub (hs : ListsBounded s) (h : HomeRow) (line : Fin 32) (st : AnswerStatus) :
    ListsBounded (s.attributeScrub h line st) := by
  cases st with
  | ok => exact hs
  | ce => exact listsBounded_suspectUpdate (listsBounded_bump hs .scrubCe) h _ _
  | ue => exact listsBounded_addLoss (listsBounded_suspectUpdate (listsBounded_bump hs .scrubUe) h _ _) h line _

/-! ### Commit, rollback and abort -/

theorem suspectsBounded_unpin (hs : SuspectsBounded s.emn.suspects) (h : HomeRow) :
    SuspectsBounded (s.unpin h).emn.suspects :=
  suspectsBounded_map hs (unpin_home h) fun _ => unpin_inRange h

theorem suspectsBounded_rollbackSlot (i : Fin 128) (hs : SuspectsBounded s.emn.suspects) :
    SuspectsBounded (s.rollbackSlot i).emn.suspects := by
  rcases migration_or_settled s i with ⟨e, cur, nx, hi, hm⟩ | hsettled
  · rw [rollbackSlot_of_migration hi hm]
    exact suspectsBounded_unpin (s := (s.putSlot i _).putSpare _ nx .free) hs e.home
  · rwa [rollbackSlot_of_settled hsettled]

theorem suspectsBounded_commitSlot (i : Fin 128) (hs : SuspectsBounded s.emn.suspects) :
    SuspectsBounded (s.commitSlot i).emn.suspects := by
  rcases migration_or_settled s i with ⟨e, cur, nx, hi, hm⟩ | hsettled
  · rw [commitSlot_of_migration hi hm, dropSuspect_eq, retireOld_eq]
    exact suspectsBounded_sublist hs List.filter_sublist
  · rwa [commitSlot_of_settled hsettled]

theorem rollbackSlot_losses (s : State) (i : Fin 128) : (s.rollbackSlot i).emn.losses = s.emn.losses := by
  rw [rollbackSlot_emn]

theorem commitSlot_losses (s : State) (i : Fin 128) : (s.commitSlot i).emn.losses = s.emn.losses := by
  rw [commitSlot_emn]

/-- The lists of the error monitor within their capacities. -/
def MonitorBounded (s : State) : Prop := SuspectsBounded s.emn.suspects ∧ s.emn.losses.length ≤ 8

theorem monitorBounded_rollbackSlot (s : State) (i : Fin 128) (hs : MonitorBounded s) :
    MonitorBounded (s.rollbackSlot i) :=
  ⟨suspectsBounded_rollbackSlot i hs.1, rollbackSlot_losses s i ▸ hs.2⟩

theorem monitorBounded_congr (s u : State) (_ : u.rmt = s.rmt) (_ : u.spl = s.spl) (he : u.emn = s.emn)
    (hs : MonitorBounded s) : MonitorBounded u := by
  unfold MonitorBounded
  rwa [he]

theorem listsBounded_abortMigration (hs : ListsBounded s) (o : MigOutcome) (a : Bool) :
    ListsBounded (s.abortMigration o a) := by
  rw [listsBounded_iff] at hs ⊢
  obtain ⟨hsusp, hlosses, hqueue⟩ := hs
  obtain ⟨hsusp', hlosses'⟩ :=
    abortMigration_induct monitorBounded_rollbackSlot monitorBounded_congr o a ⟨hsusp, hlosses⟩
  exact ⟨hsusp', hlosses', by simpa using hqueue⟩

theorem listsBounded_deviceResetValues (hs : ListsBounded s) (kind : ResetKind) (hold : Option Interval) :
    ListsBounded (s.deviceResetValues kind hold) := by
  obtain ⟨hsusp, hlosses, -⟩ := listsBounded_iff.mp hs
  obtain ⟨-, -, -, -, hemn, hmge, -⟩ := deviceResetValues_blocks s kind hold
  have hmonitor : MonitorBounded (resetTables s) :=
    resetEntries_induct monitorBounded_rollbackSlot monitorBounded_congr
      (abortMigration_induct monitorBounded_rollbackSlot monitorBounded_congr _ _ ⟨hsusp, hlosses⟩)
  obtain ⟨hsusp', hlosses'⟩ := hmonitor
  rw [listsBounded_iff, hemn, hmge]
  dsimp only
  exact ⟨hsusp', hlosses', Nat.zero_le 8⟩

theorem listsBounded_retryDecision (hs : ListsBounded s) (c : MigContext) : ListsBounded (s.retryDecision c) := by
  unfold State.retryDecision
  split
  · refine listsBounded_abortMigration ?_ _ _
    exact hs
  · exact hs

theorem listsBounded_endOfCopy (hs : ListsBounded s) (c : MigContext) : ListsBounded (s.endOfCopy c) := by
  obtain ⟨hsusp, -, -⟩ := listsBounded_iff.mp hs
  unfold State.endOfCopy
  split
  · dsimp only
    split <;> exact hs
  · apply listsBounded_suspects hs
    · simpa using suspectsBounded_commitSlot c.slot hsusp
    · simp [commitSlot_losses]
    · simp

theorem listsBounded_copyReadAnswer (hs : ListsBounded s) (c : MigContext) (e : FifoEntry) (st : AnswerStatus)
    (data : List Byte) : ListsBounded (s.copyReadAnswer c e st data) := by
  unfold State.copyReadAnswer
  split
  · exact listsBounded_retryDecision hs c
  · cases st with
    | ok | ce => exact hs
    | ue =>
      refine listsBounded_addLoss ?_ _ _ _
      exact hs

theorem failHost_faultPort_lists (hs : ListsBounded s) (reason : FaultReason) :
    ListsBounded (((s.failHost.faultPort reason).bump .dlinkFaults).raise .link) :=
  listsBounded_congr hs (by simp) (by simp) (by simp)

theorem listsBounded_enterFault (hs : ListsBounded s) (reason : FaultReason) : ListsBounded (s.enterFault reason) := by
  have ha := listsBounded_abortMigration (failHost_faultPort_lists hs reason) .abortedDownstream true
  exact listsBounded_congr ha (by simp [State.enterFault]) (by simp [State.enterFault]) (by simp [State.enterFault])

theorem listsBounded_startFailure (hs : ListsBounded s) (q : RepairRequest) (o : MigOutcome) :
    ListsBounded (s.startFailure q o) := by
  obtain ⟨hsusp, -, -⟩ := listsBounded_iff.mp hs
  exact listsBounded_suspects hs (by simpa [State.startFailure] using suspectsBounded_unpin hsusp q.home)
    (by simp [State.startFailure, State.unpin]) (by simp [State.startFailure])

/-! ### Every effect -/

theorem advance_emn (s : State) : s.advance.emn = { s.emn with decay := s.advance.emn.decay } := by
  unfold State.advance
  split <;> rfl

theorem retimeDecay_emn (s : State) (old : Nat) :
    (s.retimeDecay old).emn = { s.emn with decay := (s.retimeDecay old).emn.decay } := by
  unfold State.retimeDecay
  split <;> rfl

@[simp] theorem writeField_lists (s : State) (f : ProfileField) (n : Nat) :
    (s.writeField f n).emn.suspects = s.emn.suspects ∧ (s.writeField f n).emn.losses = s.emn.losses := by
  rw [State.writeField, retimeDecay_emn]
  exact ⟨rfl, rfl⟩

@[simp] theorem writeOpsel_lists (s : State) (i : Fin 2) :
    (s.writeOpsel i).emn.suspects = s.emn.suspects ∧ (s.writeOpsel i).emn.losses = s.emn.losses := by
  rw [State.writeOpsel, retimeDecay_emn]
  exact ⟨rfl, rfl⟩

theorem listsBounded_of_effect {c : Instr} (he : Effect s c u) (hs : ListsBounded s) : ListsBounded u := by
  obtain ⟨hsusp, hlosses, hqueue⟩ := listsBounded_iff.mp hs
  cases he
  case hostGrant =>
    exact listsBounded_congr hs (by simp [afterGrant]) (by simp [afterGrant]) (by simp [afterGrant, (hostGrant_key s).2])
  case copyWithdrawn hctx _ _ _ => exact listsBounded_retryDecision hs _
  case hostAnswer e rest tag _ st data _ _ _ _ =>
    have hp : ListsBounded ((s.popFifo rest).hostAnswer tag st data) :=
      listsBounded_congr hs (by simp) (by simp) (by simp)
    exact listsBounded_attributeHost hp e.home st
  case orphanAnswer e rest tag _ st _ _ _ _ =>
    have hp : ListsBounded ((s.popFifo rest).orphanAnswer tag) :=
      listsBounded_congr hs (by simp) (by simp) (by simp)
    exact listsBounded_attributeHost hp e.home st
  case copyReadAnswer => exact listsBounded_copyReadAnswer (s := s.popFifo _) hs _ _ _ _
  case endOfCopy => exact listsBounded_endOfCopy (s := s.popFifo _) hs _
  case scrubAttributed e rest st _ _ _ => exact listsBounded_attributeScrub (s := s.popFifo rest) hs _ _ _
  case scrubReadAnswer e rest l st data _ _ _ _ _ =>
    have hp := listsBounded_attributeScrub (s := s.popFifo rest) hs e.home e.line st
    exact listsBounded_congr hp (by simp) (by simp) (by simp)
  case fault => exact listsBounded_enterFault hs _
  case notReady =>
    refine listsBounded_enterFault ?_ _
    exact hs
  case startFailure hq =>
    refine listsBounded_startFailure ?_ _ _
    refine listsBounded_queue hs rfl ?_
    rw [hq] at hqueue
    exact Nat.le_of_succ_le hqueue
  case beginMigration hq _ _ _ =>
    refine listsBounded_queue hs (by simp) ?_
    rw [hq] at hqueue
    simpa [State.beginMigration] using Nat.le_of_succ_le hqueue
  case repairRequest hl => exact listsBounded_queue hs rfl (by simpa using hl)
  case repairCancel => exact listsBounded_queue hs rfl ((List.length_filter_le _ _).trans hqueue)
  case abort => exact listsBounded_abortMigration hs _ _
  case commit i _ _ _ _ _ _ =>
    exact listsBounded_suspects hs (by simpa using suspectsBounded_commitSlot i hsusp)
      (by simp [commitSlot_losses]) (by simp)
  case discard i _ _ _ _ _ _ =>
    exact listsBounded_suspects hs (by simpa using suspectsBounded_rollbackSlot i hsusp)
      (by simp [rollbackSlot_losses]) (by simp)
  case decayExpiry =>
    have hd := suspectsBounded_map hsusp decay_home fun _ => decay_inRange
    exact listsBounded_suspects hs (suspectsBounded_sublist hd List.filter_sublist) rfl rfl
  case suspectClear => exact listsBounded_suspects hs (suspectsBounded_sublist hsusp List.filter_sublist) rfl rfl
  case lossRead hl =>
    rw [hl] at hlosses
    exact listsBounded_iff.mpr ⟨hsusp, Nat.le_of_succ_le hlosses, hqueue⟩
  case powerOn => exact ⟨Nat.zero_le _, List.nodup_nil, nofun, Nat.zero_le _, Nat.zero_le _⟩
  case deviceReset =>
    refine listsBounded_deviceResetValues ?_ _ _
    exact hs
  all_goals
    refine listsBounded_congr hs ?_ ?_ ?_ <;>
      simp [upstreamReset, afterGrant, State.copyReadIssue, State.copyWriteIssue]

/-- Settles O6: each effect removes, changes or adds one record where its list has room. -/
theorem listsStayBounded : Obligations.ListsStayBounded :=
  keptByStep_of_effect (fun _ _ _ _ h => h)
    (fun s hs => listsBounded_congr hs (by rw [advance_emn]) (by rw [advance_emn]) (by simp))
    fun _ _ _ => listsBounded_of_effect

end Sys2Proof.Proofs
end

section
/-! SUPPORT. A captured cause stays pending and enabled (R159), and the statement O14. -/

namespace Sys2Proof.Proofs

open Sys2Proof Sys2Proof.Machine Sys2Proof.Claims

variable {s t u : State} {c : MigContext}

/-- Capture and enable set stand, and no pending cause is lost. -/
structure AlertGrows (s u : State) : Prop where
  capture : u.alc.capture = s.alc.capture
  enable : u.alc.enable = s.alc.enable
  pending : ∀ k, s.isPending k = true → u.isPending k = true

theorem captureStands_of_alertGrows (hs : CaptureStands s) (hg : AlertGrows s u) : CaptureStands u := by
  intro k hk
  obtain ⟨hp, he⟩ := hs k (hg.capture ▸ hk)
  exact ⟨hg.pending k hp, by rw [State.isEnabled, hg.enable]; exact he⟩

theorem AlertGrows.trans (h₁ : AlertGrows s t) (h₂ : AlertGrows t u) : AlertGrows s u :=
  ⟨h₂.capture.trans h₁.capture, h₂.enable.trans h₁.enable, fun k hk => h₂.pending k (h₁.pending k hk)⟩

/-- The alert controller as it was, with no loss read. -/
theorem alertGrows_of_losses (ha : u.alc = s.alc) (hl : s.emn.losses ≠ [] → u.emn.losses ≠ []) : AlertGrows s u := by
  refine ⟨by rw [ha], by rw [ha], fun k hk => ?_⟩
  cases k with
  | dataLoss => exact isPending_dataLoss_iff.mpr (hl (isPending_dataLoss_iff.mp hk))
  | link | migration | candidate | spareLow | scrubPass => simpa only [State.isPending, ha] using hk

theorem alertGrows_of_eq (ha : u.alc = s.alc) (hl : u.emn.losses = s.emn.losses) : AlertGrows s u :=
  alertGrows_of_losses ha fun h => hl ▸ h

/-- Growth from a state that agrees with `s` on alert controller and losses. -/
theorem AlertGrows.after (hg : AlertGrows t u) (ha : t.alc = s.alc) (hl : t.emn.losses = s.emn.losses) :
    AlertGrows s u :=
  AlertGrows.trans (alertGrows_of_eq ha hl) hg

theorem alertGrows_refl : AlertGrows s s := alertGrows_of_eq rfl rfl

theorem alertGrows_raise (s : State) {k : Cause} (hk : k ≠ .dataLoss) : AlertGrows s (s.raise k) := by
  refine ⟨(s.raise_enable k).2, (s.raise_enable k).1, fun k' h => ?_⟩
  rw [State.isPending_raise _ _ _ hk, h, Bool.true_or]

/-- A raise on a state whose alert controller and losses are those of `s`. -/
theorem alertGrows_raised {k : Cause} (hk : k ≠ .dataLoss) (ha : u.alc = s.alc) (hl : u.emn.losses = s.emn.losses) :
    AlertGrows s (u.raise k) :=
  (alertGrows_of_eq ha hl).trans (alertGrows_raise u hk)

/-! ### The error monitor -/

theorem alertGrows_addLoss (s : State) (h : HomeRow) (line : Fin 32) (o : LossOrigin) :
    AlertGrows s (s.addLoss h line o) := by
  refine alertGrows_of_losses (by simp) fun hne => ?_
  rcases Nat.lt_or_ge s.emn.losses.length 8 with hl | hl
  · rw [addLoss_of_room hl]
    exact List.append_ne_nil_of_right_ne_nil _ (List.cons_ne_nil _ _)
  · rw [addLoss_of_full hl]
    exact hne

theorem alertGrows_candidateEvent (s : State) (h : HomeRow) : AlertGrows s (s.candidateEvent h) := by
  unfold State.candidateEvent
  split
  · exact alertGrows_refl
  · split
    · exact alertGrows_of_eq rfl rfl
    · exact alertGrows_raise s (by decide)

theorem alertGrows_insertSuspect (s : State) (r : SuspectRecord) (rest : List SuspectRecord) :
    AlertGrows s (s.insertSuspect r rest) := by
  unfold State.insertSuspect
  split
  · exact (alertGrows_candidateEvent (s.putSuspects _) r.home).after rfl rfl
  · exact alertGrows_of_eq rfl rfl

theorem alertGrows_suspectUpdate (s : State) (h : HomeRow) (ue : Bool) (o : SuspectOrigin) :
    AlertGrows s (s.suspectUpdate h ue o) := by
  unfold State.suspectUpdate
  split
  · exact alertGrows_insertSuspect s _ _
  · split
    · exact alertGrows_insertSuspect s _ _
    · split
      · exact alertGrows_insertSuspect s _ _
      · exact alertGrows_of_eq rfl rfl

theorem alertGrows_attributeHost (s : State) (h : HomeRow) (st : AnswerStatus) :
    AlertGrows s (s.attributeHost h st) := by
  cases st with
  | ok => exact alertGrows_refl
  | ce => exact (alertGrows_suspectUpdate (s.bump .hostCe) h _ _).after rfl rfl
  | ue => exact (alertGrows_suspectUpdate (s.bump .hostUe) h _ _).after rfl rfl

theorem alertGrows_attributeScrub (s : State) (h : HomeRow) (line : Fin 32) (st : AnswerStatus) :
    AlertGrows s (s.attributeScrub h line st) := by
  cases st with
  | ok => exact alertGrows_refl
  | ce => exact (alertGrows_suspectUpdate (s.bump .scrubCe) h _ _).after rfl rfl
  | ue =>
    have hu : AlertGrows s _ := (alertGrows_suspectUpdate (s.bump .scrubUe) h true .scrub).after rfl rfl
    exact hu.trans (alertGrows_addLoss _ h line .scrub)

/-! ### The migration engine -/

theorem alertGrows_beginMigration (s : State) (q : RepairRequest) (i : Fin 128) (cur : Option (Fin 16))
    (nx : Fin 16) : AlertGrows s (s.beginMigration q i cur nx) := by
  have hw : ∀ t : State, AlertGrows t (t.checkWatermark q.home.bank) := fun t => by
    unfold State.checkWatermark
    split
    · exact alertGrows_raise t (by decide)
    · exact alertGrows_refl
  have hp : AlertGrows s (s.putSpare q.home.bank nx .assigned) := alertGrows_of_eq rfl rfl
  exact (hp.trans (hw _)).trans (alertGrows_of_eq rfl rfl)

theorem alertGrows_abortMigration (s : State) (o : MigOutcome) (a : Bool) :
    AlertGrows s (s.abortMigration o a) := by
  cases hc : s.mge.ctx with
  | none =>
    rw [abortMigration_of_idle hc]
    exact alertGrows_refl
  | some c =>
    cases a
    · exact alertGrows_of_eq (by simp [State.abortMigration, hc])
        (by simp [State.abortMigration, hc, rollbackSlot_losses])
    · simp only [State.abortMigration, hc, if_true]
      have hr := alertGrows_raised (s := s) (k := .migration) (by decide)
        (u := ((((s.rollbackSlot c.slot).putFifo (orphanCopies (s.rollbackSlot c.slot).dp.fifo)).putCtx none).putLast
          (c.outcome o)).bump .migrationsAborted) (by simp) (by simp [rollbackSlot_losses])
      exact hr.trans (alertGrows_of_eq (by simp) (by simp))

theorem alertGrows_retryDecision (s : State) (c : MigContext) : AlertGrows s (s.retryDecision c) := by
  unfold State.retryDecision
  split
  · exact (alertGrows_abortMigration (s.putCtx (some c)) _ _).after rfl rfl
  · exact alertGrows_of_eq rfl rfl

theorem alertGrows_endOfCopy (s : State) (c : MigContext) : AlertGrows s (s.endOfCopy c) := by
  unfold State.endOfCopy
  split
  · refine alertGrows_raised (by decide) ?_ ?_ <;> (split <;> rfl)
  · exact alertGrows_raised (by decide) (by simp) (by simp [commitSlot_losses])

theorem alertGrows_copyReadAnswer (s : State) (c : MigContext) (e : FifoEntry) (st : AnswerStatus)
    (data : List Byte) : AlertGrows s (s.copyReadAnswer c e st data) := by
  unfold State.copyReadAnswer
  split
  · exact alertGrows_retryDecision s c
  · cases st with
    | ok | ce => exact alertGrows_of_eq rfl rfl
    | ue => exact (alertGrows_addLoss ((s.putCtx (some c.poison)).bump .copyUe) _ _ _).after rfl rfl

/-! ### The scrubber -/

theorem alertGrows_moveCursor (s : State) (n : Nat) : AlertGrows s (s.moveCursor n) := by
  unfold State.moveCursor
  split
  · exact alertGrows_of_eq rfl rfl
  · exact alertGrows_raised (by decide) rfl rfl

theorem alertGrows_endLine (s : State) : AlertGrows s s.endLine :=
  (alertGrows_moveCursor (s.putLine none) _).after rfl rfl

theorem alertGrows_rowSkip (s : State) : AlertGrows s s.rowSkip :=
  (alertGrows_moveCursor (s.bump .skippedRows) _).after rfl rfl

theorem alertGrows_beginScrubLine (n : Nat) (s : State) : AlertGrows s (State.beginScrubLine n s) := by
  induction n generalizing s with
  | zero => exact alertGrows_refl
  | succ n ih =>
    unfold State.beginScrubLine
    split
    · split
      · exact (alertGrows_rowSkip s).trans (ih s.rowSkip)
      · exact alertGrows_of_eq rfl rfl
    · exact alertGrows_refl

theorem alertGrows_scrubReadGrant (s : State) (l : ScrubLine) : AlertGrows s (s.scrubReadGrant l) := by
  unfold State.scrubReadGrant
  dsimp only
  split
  · exact (alertGrows_rowSkip (s.putLine none)).after rfl rfl
  · exact alertGrows_of_eq rfl rfl

theorem alertGrows_scrubWritebackGrant (s : State) (l : ScrubLine) : AlertGrows s (s.scrubWritebackGrant l) := by
  unfold State.scrubWritebackGrant
  split
  · exact (alertGrows_endLine (s.bump .wbDropped)).after rfl rfl
  · exact alertGrows_of_eq rfl rfl

theorem alertGrows_scrubReadAnswer (s : State) (l : ScrubLine) (st : AnswerStatus) (data : List Byte) :
    AlertGrows s (s.scrubReadAnswer l st data) := by
  unfold State.scrubReadAnswer
  cases st with
  | ok | ue => exact alertGrows_endLine s
  | ce =>
    dsimp only
    split
    · exact alertGrows_of_eq rfl rfl
    · exact alertGrows_endLine s

/-! ### Faults -/

theorem alertGrows_enterFault (s : State) (reason : FaultReason) : AlertGrows s (s.enterFault reason) := by
  have hr : AlertGrows s (((s.failHost.faultPort reason).bump .dlinkFaults).raise .link) :=
    alertGrows_raised (by decide) (by simp) (by simp)
  have ha := hr.trans (alertGrows_abortMigration _ .abortedDownstream true)
  refine ha.trans (alertGrows_of_eq ?_ ?_) <;> simp [State.enterFault]

/-! ### The causes themselves -/

/-- A cause put to a value leaves the other causes pending as they were. -/
theorem isPending_put {k k' : Cause} {v : Bool} (hk : k' ≠ k) (x : Option Cause) :
    (s.setAlc { s.alc.put k v with capture := x }).isPending k' = s.isPending k' := by
  cases k <;> cases k' <;> first | rfl | exact absurd rfl hk

theorem captureStands_clearCause (hs : CaptureStands s) (k : Cause) : CaptureStands (s.clearCause k) := by
  intro k' hk'
  rw [clearCause_eq] at hk' ⊢
  obtain ⟨hne, hcapture⟩ := Option.ite_none_left_eq_some.mp hk'
  obtain ⟨hp, he⟩ := hs k' hcapture
  have hother : k' ≠ k := fun h => hne (h ▸ hcapture)
  exact ⟨(isPending_put hother _).trans hp, by cases k <;> exact he⟩

theorem captureStands_lossRead (hs : CaptureStands s) (rest : List LossRecord) :
    CaptureStands
      { s with
        emn := { s.emn with losses := rest }
        alc := { s.alc with
                 capture := if rest = [] ∧ s.alc.capture = some Cause.dataLoss then .none
                            else s.alc.capture } } := by
  intro k hk
  obtain ⟨hne, hcapture⟩ := Option.ite_none_left_eq_some.mp hk
  obtain ⟨hp, he⟩ := hs k hcapture
  refine ⟨?_, he⟩
  cases k with
  | dataLoss => exact isPending_dataLoss_iff.mpr fun hrest => hne ⟨hrest, hcapture⟩
  | link | migration | candidate | spareLow | scrubPass => exact hp

theorem captureStands_capture (hs : CaptureStands s) : CaptureStands s.capture := by
  intro k hk
  rw [capture_eq] at hk ⊢
  rcases Option.or_eq_some_iff.mp hk with hcapture | ⟨-, htop⟩
  · exact hs k hcapture
  · exact (enabled_pending_of_topCause htop)

theorem captureStands_writeEnable (hs : CaptureStands s) (e : BitVec 6) : CaptureStands (s.writeEnable e) := by
  intro k hk
  rw [writeEnable_eq] at hk ⊢
  obtain ⟨hcapture, he⟩ := Option.filter_eq_some_iff.mp hk
  exact ⟨(hs k hcapture).1, he⟩

theorem captureStands_of_none (hc : s.alc.capture = none) : CaptureStands s := by
  simp [CaptureStands, hc]

/-- The level of DP_REQ_READY and the starvation count are no part of the alert controller. -/
theorem AlertGrows.granted (hg : AlertGrows s u) (n : Nat) (ready : Bool) :
    AlertGrows s (afterGrant (u.putStarvation n) ready) :=
  hg.trans (alertGrows_of_eq rfl rfl)

theorem captureStands_of_effect {c : Instr} (he : Effect s c u) (hs : CaptureStands s) : CaptureStands u := by
  cases he
  case protocolError => exact captureStands_of_alertGrows hs (alertGrows_raised (by decide) rfl rfl)
  case copyWithdrawn => exact captureStands_of_alertGrows hs ((alertGrows_retryDecision s _).granted _ _)
  case scrubReadGrant l _ _ _ _ => exact captureStands_of_alertGrows hs ((alertGrows_scrubReadGrant s l).granted _ _)
  case scrubWritebackGrant l _ _ _ _ =>
    exact captureStands_of_alertGrows hs ((alertGrows_scrubWritebackGrant s l).granted _ _)
  case hostAnswer e rest tag _ st data _ _ _ _ =>
    exact captureStands_of_alertGrows hs
      ((alertGrows_attributeHost ((s.popFifo rest).hostAnswer tag st data) e.home st).after (by simp) (by simp))
  case orphanAnswer e rest tag _ st _ _ _ _ =>
    exact captureStands_of_alertGrows hs
      ((alertGrows_attributeHost ((s.popFifo rest).orphanAnswer tag) e.home st).after (by simp) (by simp))
  case copyReadAnswer e rest c st data _ _ _ _ _ =>
    exact captureStands_of_alertGrows hs ((alertGrows_copyReadAnswer (s.popFifo rest) c e st data).after rfl rfl)
  case endOfCopy rest c _ _ _ _ _ =>
    exact captureStands_of_alertGrows hs ((alertGrows_endOfCopy (s.popFifo rest) c).after rfl rfl)
  case scrubAttributed e rest st _ _ _ =>
    exact captureStands_of_alertGrows hs ((alertGrows_attributeScrub (s.popFifo rest) e.home e.line st).after rfl rfl)
  case scrubReadAnswer e rest l st data _ _ _ _ _ =>
    have ha := (alertGrows_attributeScrub (s.popFifo rest) e.home e.line st).after (s := s) rfl rfl
    exact captureStands_of_alertGrows hs (ha.trans (alertGrows_scrubReadAnswer _ l st data))
  case scrubWritten rest _ _ _ _ _ _ =>
    exact captureStands_of_alertGrows hs ((alertGrows_endLine (s.popFifo rest)).after rfl rfl)
  case fault reason _ => exact captureStands_of_alertGrows hs (alertGrows_enterFault s reason)
  case notReady =>
    exact captureStands_of_alertGrows hs
      ((alertGrows_enterFault (s.setPins { s.pins with dpReady := false }) .notReady).after rfl rfl)
  case startFailure => exact captureStands_of_alertGrows hs (alertGrows_raised (by decide) rfl rfl)
  case beginMigration q rest i cur nx _ _ _ _ =>
    exact captureStands_of_alertGrows hs ((alertGrows_beginMigration (s.putQueue rest) q i cur nx).after rfl rfl)
  case abort => exact captureStands_of_alertGrows hs (alertGrows_abortMigration s _ _)
  case spareStatus =>
    refine captureStands_clearCause ?_ _
    exact hs
  case decayExpiry => exact captureStands_of_alertGrows hs (alertGrows_of_eq rfl rfl)
  case suspectClear => exact captureStands_of_alertGrows hs (alertGrows_of_eq rfl rfl)
  case lossRead rest _ => exact captureStands_lossRead hs rest
  case scrubBegin =>
    exact captureStands_of_alertGrows hs
      ((alertGrows_beginScrubLine 129
        (s.setPsc { s.psc with timer := startTimer s.operating.scrubInterval })).after rfl rfl)
  case clearCause k _ => exact captureStands_clearCause hs k
  case capture => exact captureStands_capture hs
  case writeEnable => exact captureStands_writeEnable hs _
  case powerOn => exact captureStands_of_none rfl
  case deviceReset => exact captureStands_of_none rfl
  all_goals
    refine captureStands_of_alertGrows hs (alertGrows_of_eq ?_ ?_) <;>
      simp [upstreamReset, afterGrant, commitSlot_losses, rollbackSlot_losses]

/-- Settles O14: no effect but a clearing action takes a pending cause away, and that one releases its capture. -/
theorem captureStaysPending : Obligations.CaptureStaysPending :=
  keptByStep_of_effect (fun _ _ _ _ h => h)
    (fun s hs => captureStands_of_alertGrows hs (alertGrows_of_eq (by simp) (by rw [advance_emn])))
    fun _ _ _ => captureStands_of_effect

end Sys2Proof.Proofs
end

section
/-! SUPPORT. The grant to the host as one next state (R127, R143, R145), and the statement O29. -/

namespace Sys2Proof.Proofs

open Sys2Proof Sys2Proof.Machine Sys2Proof.Claims

variable {s : State} {tag : Fin 64} {rest : List (Fin 64)} {r : HostRecord}

/-! ### The host write notice (R77, R102, R145) -/

/-- The context after the write notice of a host record. -/
def noticedCtx (r : HostRecord) (c : MigContext) : MigContext :=
  if r.kind = .write ∧ c.home = r.home ∧ c.cursor.val = r.line.val ∧
      (c.phase = .reading ∨ (c.phase = .wait ∧ c.awaited = .copyWrite)) then
    { c with overtaken := true }
  else c

/-- The scrub line after the write notice of a host record. -/
def noticedLine (r : HostRecord) (l : ScrubLine) : ScrubLine :=
  if r.kind = .write ∧ rowOfLine l.line = r.home ∧ indexOfLine l.line = r.line ∧
      (l.phase = .reading ∨ l.phase = .awaitWriteback) then
    { l with intervened := true }
  else l

@[simp] theorem noticedCtx_phase (r : HostRecord) (c : MigContext) : (noticedCtx r c).phase = c.phase := by
  unfold noticedCtx
  split <;> rfl

@[simp] theorem noticedLine_phase (r : HostRecord) (l : ScrubLine) : (noticedLine r l).phase = l.phase := by
  unfold noticedLine
  split <;> rfl

theorem migNotice_eq (hk : r.kind = .write) (s : State) :
    s.migNotice r.home r.line = { s with mge := { s.mge with ctx := s.mge.ctx.map (noticedCtx r) } } := by
  cases hc : s.mge.ctx with
  | none =>
    simp only [State.migNotice, hc, Option.map_none]
    rw [← hc]
  | some c =>
    simp only [State.migNotice, hc, Option.map_some, noticedCtx, hk, true_and]
    split
    · rfl
    · rw [← hc]

theorem scrubNotice_eq (hk : r.kind = .write) (s : State) :
    s.scrubNotice r.home r.line = { s with psc := { s.psc with line := s.psc.line.map (noticedLine r) } } := by
  cases hl : s.psc.line with
  | none =>
    simp only [State.scrubNotice, hl, Option.map_none]
    rw [← hl]
  | some l =>
    simp only [State.scrubNotice, hl, Option.map_some, noticedLine, hk, true_and]
    split
    · rfl
    · rw [← hl]

theorem noticedCtx_of_read (hk : r.kind = .read) : noticedCtx r = id := by
  funext c
  simp [noticedCtx, hk]

theorem noticedLine_of_read (hk : r.kind = .read) : noticedLine r = id := by
  funext l
  simp [noticedLine, hk]

/-- The write notice reaches both engines. -/
theorem writeNotice_eq (s : State) (r : HostRecord) :
    s.writeNotice r =
      { s with
        mge := { s.mge with ctx := s.mge.ctx.map (noticedCtx r) }
        psc := { s.psc with line := s.psc.line.map (noticedLine r) } } := by
  cases hk : r.kind with
  | read => simp only [State.writeNotice, hk, noticedCtx_of_read hk, noticedLine_of_read hk, Option.map_id_fun, id]
  | write => simp only [State.writeNotice, hk, migNotice_eq hk, scrubNotice_eq hk]

/-! ### The legs (R127, R139, R146) -/

/-- The FIFO entry of a host leg. -/
def legEntry (tag : Fin 64) (r : HostRecord) (l : Leg × Location) : FifoEntry :=
  ⟨.host tag l.1, r.kind, l.2, r.line, r.home, false⟩

theorem issue_eq (s : State) (e : FifoEntry) (request : List Byte) :
    s.issue e request =
      { s with
        dp := { s.dp with fifo := s.dp.fifo ++ [e], timer := timerAfterIssue s }
        wires := { s.wires with dpTx := s.wires.dpTx ++ [request] } } := by
  simp only [State.issue, timerAfterIssue, List.isEmpty_iff]
  rfl

/-- The legs of one request go out together, in their order. -/
theorem sendLegs_eq (s : State) (tag : Fin 64) (r : HostRecord) (l : Leg × Location) (ls : List (Leg × Location)) :
    (l :: ls).foldl (State.sendLeg tag r) s =
      { s with
        dp := { s.dp with
                fifo := s.dp.fifo ++ (l :: ls).map (legEntry tag r), timer := timerAfterIssue s }
        wires := { s.wires with dpTx := s.wires.dpTx ++ (l :: ls).map fun l => r.legBytes l.2 } } := by
  induction ls generalizing s l with
  | nil => exact issue_eq s _ _
  | cons l' ls ih =>
    have hfirst : State.sendLeg tag r s l = s.issue (legEntry tag r l) (r.legBytes l.2) := rfl
    rw [List.foldl_cons, hfirst, issue_eq, ih]
    simp [timerAfterIssue]

theorem translate_ne_nil (s : State) (kind : ReqKind) (h : HomeRow) (line : Fin 32) :
    ∃ l ls, s.translate kind h line = l :: ls := by
  unfold State.translate
  split
  · exact ⟨_, _, rfl⟩
  · split <;> exact ⟨_, _, rfl⟩

/-- R127: what the issue of the head of the forward queue makes of the state. -/
theorem hostGrant_eq (hf : s.up.forward = tag :: rest) (hr : s.record tag = some r) :
    s.hostGrant =
      { s with
        up := { s.up with
                forward := rest
                hrt := s.up.hrt.set tag
                  (some { r with legsIssued := (s.translate r.kind r.home r.line).length }) }
        dp := { s.dp with
                fifo := s.dp.fifo ++ (s.translate r.kind r.home r.line).map (legEntry tag r)
                timer := timerAfterIssue s }
        wires := { s.wires with
                   dpTx := s.wires.dpTx ++ (s.translate r.kind r.home r.line).map fun l => r.legBytes l.2 }
        mge := { s.mge with ctx := s.mge.ctx.map (noticedCtx r) }
        psc := { s.psc with line := s.psc.line.map (noticedLine r) } } := by
  obtain ⟨l, ls, hlegs⟩ := translate_ne_nil s r.kind r.home r.line
  have htranslate : (s.setUp { s.up with forward := rest }).translate r.kind r.home r.line = l :: ls := hlegs
  simp only [State.hostGrant, hf, hr]
  rw [hlegs, sendLegs_eq, writeNotice_eq]
  rfl

theorem hostGrant_of_no_record (hf : s.up.forward = tag :: rest) (hr : s.record tag = none) :
    s.hostGrant = s.setUp { s.up with forward := rest } := by
  simp only [State.hostGrant, hf, hr]

theorem hostGrant_of_empty (hf : s.up.forward = []) : s.hostGrant = s := by
  simp only [State.hostGrant, hf]

/-! ### The grant (R141, R142, R143) -/

theorem hostPresents_iff : s.hostPresents = true ↔ s.up.forward ≠ [] := by
  simp [State.hostPresents]

theorem winner_host (hf : s.up.forward ≠ [])
    (hw : s.internalPresents = false ∨ s.dp.starvation < s.operating.starvationLimit) : s.winner = some .host := by
  have hc : (s.hostPresents && (!s.internalPresents || s.dp.starvation < s.operating.starvationLimit)) = true := by
    simpa [hostPresents_iff.mpr hf] using hw
  rw [State.winner, if_pos hc]

theorem winner_none (hf : s.up.forward = []) (hi : s.internalPresents = false) : s.winner = none := by
  obtain ⟨hm, hs⟩ := Bool.or_eq_false_iff.mp hi
  simp [State.winner, State.hostPresents, hf, hm, hs]

theorem exec_arbiterGrant_of_winner {ready : Bool} {w : Requester} (hl : s.dp.link = .up)
    (hp : s.pins.dpReqReady = true) (hw : s.winner = some w) :
    exec (.arbiterGrant ready) s = .next ((s.grant w).setPins { s.pins with dpReqReady := ready }) := by
  simp [exec, execArbiterGrant, hl, hp, hw]

theorem exec_arbiterGrant_idle {ready : Bool}
    (h : s.dp.link ≠ .up ∨ s.pins.dpReqReady = false ∨ s.winner = none) : exec (.arbiterGrant ready) s = .next s := by
  simp only [exec, execArbiterGrant]
  split
  next hup =>
    obtain ⟨hl, hp⟩ := hup
    have hw : s.winner = none := by simpa [hl, hp] using h
    rw [hw]
  · rfl

/-- Settles O29: the host wins the grant, and its grant is the equation above. -/
theorem hostGrantIssuesLegs : Obligations.HostGrantIssuesLegs := by
  unfold Obligations.HostGrantIssuesLegs
  refine ⟨fun s ready tag rest r hl hp hf hr hw => ?_, fun s ready h => ?_⟩
  · have hwin := winner_host (hf ▸ List.cons_ne_nil tag rest) hw
    refine ⟨_, exec_arbiterGrant_of_winner hl hp hwin, ?_⟩
    rw [State.grant, hostGrant_eq hf hr]
    exact ⟨rfl, rfl, rfl, rfl, rfl, rfl⟩
  · exact exec_arbiterGrant_idle (h.imp_right (Or.imp_right fun ⟨hf, hi⟩ => winner_none hf hi))

end Sys2Proof.Proofs
end

section
/-! SUPPORT. Issue FIFO, response timer, pulse and link stay in agreement (R75, R100, R139, R146, R147), and the
statement O11. -/

namespace Sys2Proof.Proofs

open Sys2Proof Sys2Proof.Machine Sys2Proof.Claims

variable {s u : State} {e : FifoEntry} {l rest : List FifoEntry} {f : FifoEntry → FifoEntry}

/-! ### Owners in the FIFO -/

theorem isCopy_eq (e : FifoEntry) : e.isCopy = (e.owner == .copy) := rfl

theorem isScrub_eq (e : FifoEntry) : e.isScrub = (e.owner == .scrub) := rfl

theorem isCopy_comp (hf : ∀ e, (f e).owner = e.owner) : FifoEntry.isCopy ∘ f = FifoEntry.isCopy :=
  funext fun e => by simp [isCopy_eq, hf]

theorem isScrub_comp (hf : ∀ e, (f e).owner = e.owner) : FifoEntry.isScrub ∘ f = FifoEntry.isScrub :=
  funext fun e => by simp [isScrub_eq, hf]

/-- A change of the entries that keeps their owners. -/
theorem any_owner_map (hf : ∀ e, (f e).owner = e.owner) (l : List FifoEntry) :
    (l.map f).any FifoEntry.isCopy = l.any FifoEntry.isCopy ∧
      (l.map f).any FifoEntry.isScrub = l.any FifoEntry.isScrub := by
  rw [List.any_map, List.any_map, isCopy_comp hf, isScrub_comp hf]
  exact ⟨rfl, rfl⟩

theorem countP_owner_map (hf : ∀ e, (f e).owner = e.owner) (l : List FifoEntry) :
    (l.map f).countP FifoEntry.isCopy = l.countP FifoEntry.isCopy ∧
      (l.map f).countP FifoEntry.isScrub = l.countP FifoEntry.isScrub := by
  rw [List.countP_map, List.countP_map, isCopy_comp hf, isScrub_comp hf]
  exact ⟨rfl, rfl⟩

theorem orphanEntry_owner (forward : List (Fin 64)) (e : FifoEntry) : (orphanEntry forward e).owner = e.owner := by
  unfold orphanEntry
  split
  · split <;> rfl
  · rfl

/-- The change of one entry by an abort (R85) or by SCRUB_STOP (R110). -/
theorem ite_orphan_owner (p : FifoEntry → Bool) (e : FifoEntry) :
    (if p e then { e with orphan := true } else e).owner = e.owner := by
  split <;> rfl

theorem legEntry_not_internal (tag : Fin 64) (r : HostRecord) (legs : List (Leg × Location)) :
    (legs.map (legEntry tag r)).any FifoEntry.isCopy = false ∧
      (legs.map (legEntry tag r)).any FifoEntry.isScrub = false := by
  simp [List.any_map, Function.comp_def, isCopy_eq, isScrub_eq, legEntry]

/-! ### The port by its own fields -/

/-- `PortCoherent` as a relation on the port's fields. -/
def PortOk (d : DownstreamPort) : Prop :=
  d.fifo.countP FifoEntry.isCopy ≤ 1 ∧ d.fifo.countP FifoEntry.isScrub ≤ 1 ∧ (d.fifo ≠ [] → d.link = .up) ∧
    d.timer.isSome = !d.fifo.isEmpty ∧ (d.pulse.isSome = true → d.link = .retrain) ∧ (d.link ≠ .up → d.starvation = 0)

theorem portCoherent_iff : PortCoherent s ↔ PortOk s.dp := Iff.rfl

theorem portCoherent_congr (hs : PortCoherent s) (hd : u.dp = s.dp) : PortCoherent u := by
  rw [portCoherent_iff, hd]
  exact hs

/-- A change of entries that keeps their owners, and a count that is kept or becomes 0. -/
theorem portCoherent_map (hs : PortCoherent s) (hf : ∀ e, (f e).owner = e.owner) {n : Nat}
    (hn : n = s.dp.starvation ∨ n = 0) (hd : u.dp = { s.dp with fifo := s.dp.fifo.map f, starvation := n }) :
    PortCoherent u := by
  obtain ⟨hcopy, hscrub, hup, htimer, hpulse, hstarved⟩ := hs
  obtain ⟨hc, hsc⟩ := countP_owner_map hf s.dp.fifo
  rw [portCoherent_iff, hd]
  refine ⟨hc ▸ hcopy, hsc ▸ hscrub, fun h => hup fun hnil => h (by simp [hnil]), ?_, hpulse, fun h => ?_⟩
  · simpa using htimer
  · rcases hn with rfl | rfl
    · exact hstarved h
    · rfl

/-- A settled or granted count: the rest of the port stands. -/
theorem portCoherent_starvation (hs : PortCoherent s) {n : Nat} (hn : s.dp.link = .up ∨ n = 0)
    (hd : u.dp = { s.dp with starvation := n }) : PortCoherent u := by
  obtain ⟨hcopy, hscrub, hup, htimer, hpulse, -⟩ := hs
  rw [portCoherent_iff, hd]
  exact ⟨hcopy, hscrub, hup, htimer, hpulse, fun h => hn.elim (fun hl => absurd hl h) id⟩

/-- Entries placed behind the others while the link is UP. -/
theorem portCoherent_append (hs : PortCoherent s) (hl : s.dp.link = .up) {es : List FifoEntry} (hne : es ≠ [])
    (hcopy : (s.dp.fifo ++ es).countP FifoEntry.isCopy ≤ 1) (hscrub : (s.dp.fifo ++ es).countP FifoEntry.isScrub ≤ 1)
    (hd : u.dp = { s.dp with fifo := s.dp.fifo ++ es, timer := timerAfterIssue s }) : PortCoherent u := by
  obtain ⟨-, -, -, htimer, hpulse, hstarved⟩ := hs
  rw [portCoherent_iff, hd]
  refine ⟨hcopy, hscrub, fun _ => hl, ?_, hpulse, hstarved⟩
  have hfull : (s.dp.fifo ++ es).isEmpty = false := by simp [hne]
  unfold timerAfterIssue
  split
  · simp [hfull]
  next hfifo => simpa [hfull, List.isEmpty_eq_false_iff.mpr hfifo] using htimer

/-- R139: one entry of an engine that has none in the FIFO. -/
theorem portCoherent_issue (hs : PortCoherent s) (hl : s.dp.link = .up)
    (hd : u.dp = (s.issue e []).dp) (hcopy : e.isCopy = true → s.dp.fifo.any FifoEntry.isCopy = false)
    (hscrub : e.isScrub = true → s.dp.fifo.any FifoEntry.isScrub = false) : PortCoherent u := by
  have hcount : ∀ p : FifoEntry → Bool, (p e = true → s.dp.fifo.any p = false) → s.dp.fifo.countP p ≤ 1 →
      (s.dp.fifo ++ [e]).countP p ≤ 1 := fun p hp hone => by
    rw [List.countP_append, List.countP_singleton]
    split
    next he =>
      have hz : s.dp.fifo.countP p = 0 := by simpa [List.countP_eq_zero] using hp he
      omega
    · exact hone
  refine portCoherent_append hs hl (List.cons_ne_nil e []) (hcount _ hcopy hs.1) (hcount _ hscrub hs.2.1) ?_
  rw [hd, issue_eq]

theorem portCoherent_popFifo (hs : PortCoherent s) (hf : s.dp.fifo = e :: rest) : PortCoherent (s.popFifo rest) := by
  obtain ⟨hcopy, hscrub, hup, -, hpulse, hstarved⟩ := hs
  have hsub : rest.Sublist s.dp.fifo := hf ▸ List.sublist_cons_self e rest
  refine ⟨(hsub.countP_le).trans hcopy, (hsub.countP_le).trans hscrub, fun _ => hup (hf ▸ List.cons_ne_nil e rest), ?_,
    hpulse, hstarved⟩
  cases rest <;> rfl

/-! ### Abort, faults and link states -/

/-- R85, R143: an abort orphans the COPY entry and keeps the starvation count or makes it 0. -/
theorem abortMigration_dp (s : State) (o : MigOutcome) (a : Bool) :
    ∃ f n, (∀ e : FifoEntry, (f e).owner = e.owner) ∧ (n = s.dp.starvation ∨ n = 0) ∧
      (s.abortMigration o a).dp = { s.dp with fifo := s.dp.fifo.map f, starvation := n } := by
  cases hc : s.mge.ctx with
  | none => exact ⟨id, s.dp.starvation, fun _ => rfl, .inl rfl, by rw [abortMigration_of_idle hc, List.map_id]⟩
  | some c =>
    have hsettle : ∀ t : State, t.dp = { s.dp with fifo := orphanCopies s.dp.fifo } →
        ∃ n, (n = s.dp.starvation ∨ n = 0) ∧
          t.settleStarvation.dp = { s.dp with fifo := orphanCopies s.dp.fifo, starvation := n } := fun t ht => by
      unfold State.settleStarvation
      split
      · exact ⟨_, .inl rfl, ht⟩
      · exact ⟨_, .inr rfl, by simp [ht]⟩
    simp only [State.abortMigration, hc]
    obtain ⟨n, hn, hd⟩ := hsettle
      (if a then
        (((((s.rollbackSlot c.slot).putFifo (orphanCopies (s.rollbackSlot c.slot).dp.fifo)).putCtx none).putLast
          (c.outcome o)).bump .migrationsAborted).raise .migration
      else
        ((((s.rollbackSlot c.slot).putFifo (orphanCopies (s.rollbackSlot c.slot).dp.fifo)).putCtx none).putLast
          (c.outcome o)).bump .migrationsAborted) (by cases a <;> simp)
    exact ⟨_, n, ite_orphan_owner FifoEntry.isCopy, hn, hd⟩

theorem portCoherent_abortMigration (hs : PortCoherent s) (o : MigOutcome) (a : Bool) :
    PortCoherent (s.abortMigration o a) := by
  obtain ⟨f, n, hf, hn, hd⟩ := abortMigration_dp s o a
  exact portCoherent_map hs hf hn hd

theorem portCoherent_retryDecision (hs : PortCoherent s) (c : MigContext) : PortCoherent (s.retryDecision c) := by
  unfold State.retryDecision
  split
  · refine portCoherent_abortMigration ?_ _ _
    exact hs
  · exact hs

/-- R148: a fault flushes the port. -/
theorem enterFault_dp (s : State) (reason : FaultReason) :
    (s.enterFault reason).dp =
      { s.dp with link := .fault, lastFault := reason, fifo := [], timer := none, starvation := 0 } := by
  obtain ⟨f, n, -, -, hd⟩ := abortMigration_dp (((s.failHost.faultPort reason).bump .dlinkFaults).raise .link)
    .abortedDownstream true
  simp only [State.enterFault, putStarvation_dp, State.pauseScrubber_frame, hd]
  simp [State.faultPort]

theorem portCoherent_enterFault (hs : PortCoherent s) (hl : s.dp.link = .up) (reason : FaultReason) :
    PortCoherent (s.enterFault reason) := by
  obtain ⟨-, -, -, -, hpulse, -⟩ := hs
  have hstopped : ¬s.dp.pulse.isSome = true := fun h => by simp [hl] at hpulse; simp [hpulse] at h
  rw [portCoherent_iff, enterFault_dp]
  exact ⟨Nat.zero_le 1, Nat.zero_le 1, fun h => absurd rfl h, rfl, fun h => absurd h hstopped, fun _ => rfl⟩

/-- The link enters UP from RETRAIN, with an empty FIFO and the pulse at its end. -/
theorem downstreamEntry_dp (s : State) :
    s.downstreamEntry.dp = s.dp ∨
      (s.dp.link = .retrain ∧ s.dp.pulse = none ∧ s.downstreamEntry.dp = { s.dp with link := .up }) := by
  unfold State.downstreamEntry
  split
  next h => exact .inr ⟨h.1, h.2.1, by simp⟩
  · exact .inl rfl

theorem portCoherent_downstreamEntry (hs : PortCoherent s) : PortCoherent s.downstreamEntry := by
  rcases downstreamEntry_dp s with hd | ⟨-, hp, hd⟩
  · exact portCoherent_congr hs hd
  · obtain ⟨hcopy, hscrub, -, htimer, -, -⟩ := hs
    rw [portCoherent_iff, hd]
    exact ⟨hcopy, hscrub, fun _ => rfl, htimer, fun h => by simp [hp] at h, fun h => absurd rfl h⟩

theorem portCoherent_releasePulse (hs : PortCoherent s) : PortCoherent s.releasePulse := by
  refine portCoherent_downstreamEntry ?_
  obtain ⟨hcopy, hscrub, hup, htimer, -, hstarved⟩ := hs
  exact ⟨hcopy, hscrub, hup, htimer, nofun, hstarved⟩

theorem portCoherent_releaseReset (hs : PortCoherent s) : PortCoherent s.releaseReset := by
  have hend : PortCoherent s.endReset := by
    have hentry : PortCoherent (s.setRst { s.rst with force := .none, hold := none }).upstreamEntry :=
      portCoherent_congr hs (by simp)
    unfold State.endReset
    dsimp only
    split
    · exact portCoherent_releasePulse hentry
    · exact hentry
  unfold State.releaseReset
  split
  · exact hs
  · split
    · exact hend
    · exact hs
  · split
    · exact hend
    · exact hs

theorem portCoherent_powerOn (hd : u.dp = DownstreamPort.powerOn) : PortCoherent u := by
  rw [portCoherent_iff, hd]
  exact ⟨Nat.zero_le 1, Nat.zero_le 1, fun h => absurd rfl h, rfl, fun _ => rfl, fun _ => rfl⟩

/-! ### Grants -/

theorem portCoherent_hostGrant (hs : PortCoherent s) (hl : s.dp.link = .up) : PortCoherent s.hostGrant := by
  cases hf : s.up.forward with
  | nil => rwa [hostGrant_of_empty hf]
  | cons tag rest =>
    cases hr : s.record tag with
    | none =>
      rw [hostGrant_of_no_record hf hr]
      exact hs
    | some r =>
      obtain ⟨l, ls, hlegs⟩ := translate_ne_nil s r.kind r.home r.line
      obtain ⟨hc, hsc⟩ := legEntry_not_internal tag r (s.translate r.kind r.home r.line)
      have hz : ∀ p : FifoEntry → Bool, (List.map (legEntry tag r) (s.translate r.kind r.home r.line)).any p = false →
          (s.dp.fifo ++ List.map (legEntry tag r) (s.translate r.kind r.home r.line)).countP p =
            s.dp.fifo.countP p := fun p hp => by
        have hlegs0 : List.countP p (List.map (legEntry tag r) (s.translate r.kind r.home r.line)) = 0 :=
          List.countP_eq_zero.mpr fun a ha => by simpa using List.any_eq_false.mp hp a ha
        rw [List.countP_append, hlegs0, Nat.add_zero]
      refine portCoherent_append hs hl (es := (s.translate r.kind r.home r.line).map (legEntry tag r)) (by simp [hlegs])
        (hz _ hc ▸ hs.1) (hz _ hsc ▸ hs.2.1) ?_
      rw [hostGrant_eq hf hr]

theorem portCoherent_granted (hs : PortCoherent u) (hl : u.dp.link = .up) (n : Nat) (ready : Bool) :
    PortCoherent (afterGrant (u.putStarvation n) ready) :=
  portCoherent_starvation hs (.inl hl) rfl

theorem portCoherent_settleStarvation (hs : PortCoherent s) : PortCoherent s.settleStarvation := by
  unfold State.settleStarvation
  split
  · exact hs
  · exact portCoherent_starvation hs (.inr rfl) rfl

theorem portCoherent_copyReadIssue (hs : PortCoherent s) (hl : s.dp.link = .up)
    (hf : s.dp.fifo.any FifoEntry.isCopy = false) (c : MigContext) : PortCoherent (s.copyReadIssue c) := by
  refine portCoherent_issue hs hl rfl (fun _ => hf) ?_
  exact nofun

theorem portCoherent_copyWriteIssue (hs : PortCoherent s) (hl : s.dp.link = .up)
    (hf : s.dp.fifo.any FifoEntry.isCopy = false) (c : MigContext) : PortCoherent (s.copyWriteIssue c) := by
  refine portCoherent_issue hs hl rfl (fun _ => hf) ?_
  exact nofun

theorem portCoherent_scrubReadGrant (hs : PortCoherent s) (hl : s.dp.link = .up)
    (hf : s.dp.fifo.any FifoEntry.isScrub = false) (l : ScrubLine) : PortCoherent (s.scrubReadGrant l) := by
  unfold State.scrubReadGrant
  dsimp only
  split
  · exact portCoherent_congr hs (by simp)
  · refine portCoherent_issue hs hl rfl ?_ fun _ => hf
    exact nofun

theorem portCoherent_scrubWritebackGrant (hs : PortCoherent s) (hl : s.dp.link = .up)
    (hf : s.dp.fifo.any FifoEntry.isScrub = false) (l : ScrubLine) : PortCoherent (s.scrubWritebackGrant l) := by
  unfold State.scrubWritebackGrant
  split
  · exact portCoherent_congr hs (by simp)
  · refine portCoherent_issue hs hl rfl ?_ fun _ => hf
    exact nofun

/-! ### Every effect -/

theorem portCoherent_endOfCopy (hs : PortCoherent s) (c : MigContext) : PortCoherent (s.endOfCopy c) :=
  portCoherent_congr hs (by simp)

theorem portCoherent_copyReadAnswer (hs : PortCoherent s) (c : MigContext) (e : FifoEntry) (st : AnswerStatus)
    (data : List Byte) : PortCoherent (s.copyReadAnswer c e st data) := by
  unfold State.copyReadAnswer
  split
  · exact portCoherent_retryDecision hs c
  · cases st with
    | ok | ce => exact hs
    | ue => exact portCoherent_congr hs (by simp)

theorem retryDecision_link (s : State) (c : MigContext) : (s.retryDecision c).dp.link = s.dp.link := by
  unfold State.retryDecision
  split
  · obtain ⟨f, n, -, -, hd⟩ := abortMigration_dp (s.putCtx (some c)) .abortedContended true
    rw [hd]
    rfl
  · rfl

theorem hostGrant_link (s : State) : s.hostGrant.dp.link = s.dp.link := by
  cases hf : s.up.forward with
  | nil => rw [hostGrant_of_empty hf]
  | cons tag rest =>
    cases hr : s.record tag with
    | none =>
      rw [hostGrant_of_no_record hf hr]
      rfl
    | some r => rw [hostGrant_eq hf hr]

theorem portCoherent_advance (hs : PortCoherent s) : PortCoherent s.advance := by
  obtain ⟨hcopy, hscrub, hup, htimer, hpulse, hstarved⟩ := hs
  unfold State.advance
  dsimp only
  split
  · exact ⟨hcopy, hscrub, hup, htimer, by simpa using hpulse, hstarved⟩
  · exact ⟨hcopy, hscrub, hup, by simpa using htimer, by simpa using hpulse, hstarved⟩

theorem portCoherent_of_effect {c : Instr} (he : Effect s c u) (hs : PortCoherent s) : PortCoherent u := by
  cases he
  case upstreamReset =>
    exact portCoherent_map hs (orphanEntry_owner s.up.forward) (.inl rfl) rfl
  case hostGrant hl => exact portCoherent_granted (portCoherent_hostGrant hs hl) ((hostGrant_link s).trans hl) _ _
  case copyReadIssue hl _ _ hf _ =>
    exact portCoherent_starvation (portCoherent_copyReadIssue hs hl hf _) (.inr rfl) rfl
  case copyWithdrawn hl _ _ _ _ =>
    exact portCoherent_granted (portCoherent_retryDecision hs _) ((retryDecision_link s _).trans hl) _ _
  case copyWriteIssue hl _ _ hf _ _ =>
    exact portCoherent_starvation (portCoherent_copyWriteIssue hs hl hf _) (.inr rfl) rfl
  case scrubReadGrant l hl _ _ hf =>
    exact portCoherent_starvation (portCoherent_scrubReadGrant hs hl hf l) (.inr rfl) rfl
  case scrubWritebackGrant l hl _ _ hf =>
    exact portCoherent_starvation (portCoherent_scrubWritebackGrant hs hl hf l) (.inr rfl) rfl
  case hostAnswer hf _ _ => exact portCoherent_congr (portCoherent_popFifo hs hf) (by simp)
  case orphanAnswer hf _ _ => exact portCoherent_congr (portCoherent_popFifo hs hf) (by simp)
  case absorbed hf _ => exact portCoherent_popFifo hs hf
  case copyReadAnswer hf _ _ _ => exact portCoherent_copyReadAnswer (portCoherent_popFifo hs hf) _ _ _ _
  case endOfCopy hf _ _ _ => exact portCoherent_endOfCopy (portCoherent_popFifo hs hf) _
  case scrubAttributed hf _ => exact portCoherent_congr (portCoherent_popFifo hs hf) (by simp)
  case scrubReadAnswer hf _ _ _ => exact portCoherent_congr (portCoherent_popFifo hs hf) (by simp)
  case scrubWritten hf _ _ _ => exact portCoherent_congr (portCoherent_popFifo hs hf) (by simp)
  case fault hl => exact portCoherent_enterFault hs hl _
  case notReady hl =>
    refine portCoherent_enterFault ?_ ?_ _
    · exact hs
    · exact hl
  case dpReadyRise =>
    refine portCoherent_downstreamEntry ?_
    exact hs
  case releasePulse => exact portCoherent_releasePulse hs
  case downstreamEntry => exact portCoherent_downstreamEntry hs
  case recover hl =>
    obtain ⟨hcopy, hscrub, hup, htimer, -, hstarved⟩ := hs
    exact ⟨hcopy, hscrub, fun h => by simp [hl] at hup; exact absurd hup h, htimer, fun _ => rfl,
      fun _ => hstarved (by simp [hl])⟩
  case abort => exact portCoherent_abortMigration hs _ _
  case scrubStop =>
    refine portCoherent_settleStarvation ?_
    exact portCoherent_map hs (ite_orphan_owner FifoEntry.isScrub) (.inl rfl) rfl
  case powerOn => exact portCoherent_powerOn rfl
  case powerOnEnd =>
    refine portCoherent_releaseReset ?_
    exact portCoherent_congr hs (by simp)
  case deviceReset => exact portCoherent_powerOn rfl
  case deviceEnd =>
    refine portCoherent_releaseReset ?_
    exact portCoherent_congr hs (by simp)
  case writeTimeout => exact hs
  all_goals exact portCoherent_congr hs (by simp)

/-- Settles O11: a grant adds an entry of a requester that has none, an answer removes the oldest, and only a fault
or a reset leaves UP. -/
theorem portStaysCoherent : Obligations.PortStaysCoherent :=
  keptByStep_of_effect (fun _ _ _ _ h => h) (fun _ => portCoherent_advance) fun _ _ _ => portCoherent_of_effect

end Sys2Proof.Proofs
end

section
/-! SUPPORT. The starvation count is 0 while no internal requester presents, and at most 255 (R143), and the statement
O12. -/

namespace Sys2Proof.Proofs

open Sys2Proof Sys2Proof.Machine Sys2Proof.Claims

variable {s t u : State} {e : FifoEntry} {rest : List FifoEntry}

/-! ### What keeps the count -/

/-- The count became 0, or it stands and an internal requester that presented presents still. -/
def KeepsCount (s u : State) : Prop :=
  u.dp.starvation = 0 ∨
    (u.dp.starvation = s.dp.starvation ∧ (s.internalPresents = true → u.internalPresents = true))

theorem starvationCounted_of_keepsCount (hs : StarvationCounted s) (hk : KeepsCount s u) : StarvationCounted u := by
  obtain ⟨hidle, hmax⟩ := hs
  rcases hk with hz | ⟨he, hp⟩
  · exact ⟨fun _ => hz, hz ▸ Nat.zero_le _⟩
  · refine ⟨fun hu => ?_, he ▸ hmax⟩
    rw [he]
    exact hidle (Bool.eq_false_iff.mpr fun hs => by simp [hp hs] at hu)

theorem keepsCount_trans (h₁ : KeepsCount s t) (h₂ : KeepsCount t u) : KeepsCount s u := by
  rcases h₂ with hz | ⟨he₂, hp₂⟩
  · exact .inl hz
  · rcases h₁ with hz | ⟨he₁, hp₁⟩
    · exact .inl (he₂.trans hz)
    · exact .inr ⟨he₂.trans he₁, fun h => hp₂ (hp₁ h)⟩

/-- Each engine's requester presents on. -/
theorem keepsCount_of_presents (hst : u.dp.starvation = s.dp.starvation)
    (hm : s.migPresents = true → u.migPresents = true) (hsc : s.scrubPresents = true → u.scrubPresents = true) :
    KeepsCount s u := by
  refine .inr ⟨hst, fun h => ?_⟩
  rcases Bool.or_eq_true_iff.mp h with h | h
  · exact Bool.or_eq_true_iff.mpr (.inl (hm h))
  · exact Bool.or_eq_true_iff.mpr (.inr (hsc h))

theorem migPresents_congr (hd : u.dp.fifo = s.dp.fifo) (hc : u.mge.ctx = s.mge.ctx) :
    u.migPresents = s.migPresents := by
  simp only [State.migPresents, hd, hc]

theorem scrubPresents_congr (hd : u.dp.fifo = s.dp.fifo) (hl : u.psc.line = s.psc.line) :
    u.scrubPresents = s.scrubPresents := by
  simp only [State.scrubPresents, hd, hl]

theorem keepsCount_congr (hd : u.dp = s.dp) (hc : u.mge.ctx = s.mge.ctx) (hl : u.psc.line = s.psc.line) :
    KeepsCount s u :=
  keepsCount_of_presents (by rw [hd]) (fun h => migPresents_congr (congrArg _ hd) hc ▸ h)
    fun h => scrubPresents_congr (congrArg _ hd) hl ▸ h

/-- A change of the entries of the FIFO that keeps their owners. -/
theorem keepsCount_map {f : FifoEntry → FifoEntry} (hf : ∀ e, (f e).owner = e.owner)
    (hd : u.dp = { s.dp with fifo := s.dp.fifo.map f }) (hc : u.mge.ctx = s.mge.ctx)
    (hl : u.psc.line = s.psc.line) : KeepsCount s u := by
  obtain ⟨hcopy, hscrub⟩ := any_owner_map hf s.dp.fifo
  refine keepsCount_of_presents (by rw [hd]) (fun h => ?_) fun h => ?_
  · simpa only [State.migPresents, hd, hc, hcopy] using h
  · simpa only [State.scrubPresents, hd, hl, hscrub] using h

/-- A settled count needs no comparison with the state before. -/
theorem keepsCount_settled (hd : t.dp.starvation = s.dp.starvation) : KeepsCount s t.settleStarvation := by
  unfold State.settleStarvation
  split
  next h => exact .inr ⟨hd, fun _ => h⟩
  · exact .inl rfl

/-- The oldest entry removed: what is behind it blocks no requester that was not blocked. -/
theorem keepsCount_popFifo (s : State) (hf : s.dp.fifo = e :: rest) : KeepsCount s (s.popFifo rest) := by
  have hany : ∀ p : FifoEntry → Bool, s.dp.fifo.any p = false → rest.any p = false := fun p hp => by
    rw [hf, List.any_cons] at hp
    exact (Bool.or_eq_false_iff.mp hp).2
  refine keepsCount_of_presents rfl (fun h => ?_) fun h => ?_
  · obtain ⟨hc, hfree⟩ := migPresents_iff.mp h
    exact migPresents_iff.mpr ⟨hc, hany _ hfree⟩
  · obtain ⟨hl, hfree⟩ := scrubPresents_iff.mp h
    exact scrubPresents_iff.mpr ⟨hl, hany _ hfree⟩

/-- A scrub line that awaits no request ends or begins: the scrubber did not present before. -/
theorem keepsCount_line (hd : u.dp = s.dp) (hc : u.mge.ctx = s.mge.ctx) (hn : s.scrubPresents = false) :
    KeepsCount s u :=
  keepsCount_of_presents (by rw [hd]) (fun h => migPresents_congr (congrArg _ hd) hc ▸ h)
    fun h => absurd (hn.symm.trans h) Bool.false_ne_true

/-- A context that was in no phase WAIT, or one that is. -/
theorem keepsCount_ctx (hd : u.dp = s.dp) (hl : u.psc.line = s.psc.line)
    (hw : s.migPresents = true → u.migPresents = true) : KeepsCount s u :=
  keepsCount_of_presents (by rw [hd]) hw fun h => scrubPresents_congr (congrArg _ hd) hl ▸ h

theorem migPresents_of_phase {c : MigContext} (hc : s.mge.ctx = some c) (hp : c.phase ≠ .wait) :
    s.migPresents = false := by
  simp [State.migPresents, hc, hp]

theorem migPresents_of_idle (hc : s.mge.ctx = none) : s.migPresents = false := by
  simp [State.migPresents, hc]

theorem scrubPresents_of_phase {l : ScrubLine} (hl : s.psc.line = some l) (hr : l.phase ≠ .awaitRead)
    (hw : l.phase ≠ .awaitWriteback) : s.scrubPresents = false := by
  simp [State.scrubPresents, hl, hr, hw]

theorem scrubPresents_of_no_line (hl : s.psc.line = none) : s.scrubPresents = false := by
  simp [State.scrubPresents, hl]

/-! ### The engines -/

theorem keepsCount_abortMigration (s : State) (o : MigOutcome) (a : Bool) : KeepsCount s (s.abortMigration o a) := by
  cases hc : s.mge.ctx with
  | none =>
    rw [abortMigration_of_idle hc]
    exact .inr ⟨rfl, id⟩
  | some c =>
    simp only [State.abortMigration, hc]
    exact keepsCount_settled (by cases a <;> simp)

theorem keepsCount_retryDecision {c : MigContext} (hn : s.migPresents = false) : KeepsCount s (s.retryDecision c) := by
  have hput : ∀ t : State, t.dp = s.dp → t.psc = s.psc → KeepsCount s t := fun t hd hp =>
    keepsCount_ctx hd (by rw [hp]) fun h => absurd (hn.symm.trans h) Bool.false_ne_true
  unfold State.retryDecision
  split
  · exact keepsCount_trans (hput (s.putCtx (some c)) rfl rfl) (keepsCount_abortMigration ..)
  · exact hput _ rfl rfl

theorem keepsCount_copyReadAnswer {c : MigContext} (hn : s.migPresents = false) (e : FifoEntry) (st : AnswerStatus)
    (data : List Byte) : KeepsCount s (s.copyReadAnswer c e st data) := by
  unfold State.copyReadAnswer
  split
  · exact keepsCount_retryDecision hn
  · have hput : ∀ t : State, t.dp = s.dp → t.psc = s.psc → KeepsCount s t := fun t hd hp =>
      keepsCount_ctx hd (by rw [hp]) fun h => absurd (hn.symm.trans h) Bool.false_ne_true
    cases st with
    | ok | ce => exact hput _ rfl rfl
    | ue => exact hput _ (by simp) (by simp)

/-- An attribution may append to the repair queue; the context stands. -/
theorem ctx_of_queueGrows {h : HomeRow} (hg : QueueGrows s h u) : u.mge.ctx = s.mge.ctx := by
  rcases hg with he | ⟨-, -, -, m, he⟩ <;> rw [he]

theorem ctx_attributeHost (s : State) (h : HomeRow) (st : AnswerStatus) :
    (s.attributeHost h st).mge.ctx = s.mge.ctx :=
  ctx_of_queueGrows (attributeHost_queueGrows s h st)

theorem ctx_attributeScrub (s : State) (h : HomeRow) (line : Fin 32) (st : AnswerStatus) :
    (s.attributeScrub h line st).mge.ctx = s.mge.ctx :=
  ctx_of_queueGrows (attributeScrub_queueGrows s h line st)

/-- R108: the scrubber that resumes has no line. -/
theorem downstreamEntry_line (s : State) : s.downstreamEntry.psc.line = s.psc.line := by
  unfold State.downstreamEntry State.resumeScrubber
  split
  · dsimp only
    split <;> rfl
  · rfl

theorem keepsCount_downstreamEntry (s : State) : KeepsCount s s.downstreamEntry := by
  have hp : s.downstreamEntry.dp.fifo = s.dp.fifo ∧ s.downstreamEntry.dp.starvation = s.dp.starvation := by
    rcases downstreamEntry_dp s with hd | ⟨-, -, hd⟩ <;> rw [hd] <;> exact ⟨rfl, rfl⟩
  obtain ⟨hf, hst⟩ := hp
  exact keepsCount_of_presents hst (fun h => migPresents_congr hf (by simp) ▸ h)
    fun h => scrubPresents_congr hf (downstreamEntry_line s) ▸ h

theorem keepsCount_releasePulse (s : State) : KeepsCount s s.releasePulse :=
  keepsCount_trans (t := s.setDp { s.dp with pulse := none }) (.inr ⟨rfl, id⟩) (keepsCount_downstreamEntry _)

theorem keepsCount_releaseReset (s : State) : KeepsCount s s.releaseReset := by
  have hself : KeepsCount s s := .inr ⟨rfl, id⟩
  have hend : KeepsCount s s.endReset := by
    have hentry : KeepsCount s (s.setRst { s.rst with force := .none, hold := none }).upstreamEntry :=
      keepsCount_congr (by simp) (by simp) (by simp)
    unfold State.endReset
    dsimp only
    split
    · exact keepsCount_trans hentry (keepsCount_releasePulse _)
    · exact hentry
  unfold State.releaseReset
  split
  · exact hself
  · split
    · exact hend
    · exact hself
  · split
    · exact hend
    · exact hself

/-! ### The host's grant (R143) -/

theorem hostGrant_internalPresents (s : State) : s.hostGrant.internalPresents = s.internalPresents := by
  cases hf : s.up.forward with
  | nil => rw [hostGrant_of_empty hf]
  | cons tag rest =>
    cases hr : s.record tag with
    | none =>
      rw [hostGrant_of_no_record hf hr]
      rfl
    | some r =>
      obtain ⟨hcopy, hscrub⟩ := legEntry_not_internal tag r (s.translate r.kind r.home r.line)
      rw [hostGrant_eq hf hr]
      simp only [State.internalPresents, State.migPresents, State.scrubPresents, List.any_append, hcopy, hscrub,
        Bool.or_false, Option.any_map, noticedCtx_phase, noticedLine_phase]

theorem starvationCounted_hostGrant (hs : StarvationCounted s) (ready : Bool) :
    StarvationCounted (afterGrant (s.hostGrant.putStarvation s.starvationAfterHost) ready) := by
  obtain ⟨hidle, hmax⟩ := hs
  have hp : (afterGrant (s.hostGrant.putStarvation s.starvationAfterHost) ready).internalPresents =
      s.internalPresents := hostGrant_internalPresents s
  have hst : (afterGrant (s.hostGrant.putStarvation s.starvationAfterHost) ready).dp.starvation =
      s.starvationAfterHost := rfl
  rw [StarvationCounted, hp, hst, State.starvationAfterHost]
  refine ⟨fun hi => by rw [if_neg (by simp [hi])]; exact hidle hi, ?_⟩
  split
  · exact Nat.min_le_left ..
  · exact hmax

/-! ### Every effect -/

theorem beginMigration_migPresents (s : State) (q : RepairRequest) (i : Fin 128) (cur : Option (Fin 16))
    (nx : Fin 16) (hc : s.mge.ctx = none) : KeepsCount s (s.beginMigration q i cur nx) :=
  keepsCount_ctx (by simp) (by simp) fun h => absurd ((migPresents_of_idle hc).symm.trans h) Bool.false_ne_true

theorem starvationCounted_of_effect {c : Instr} (he : Effect s c u) (hs : StarvationCounted s) :
    StarvationCounted u := by
  have kept : KeepsCount s u → StarvationCounted u := starvationCounted_of_keepsCount hs
  cases he
  case upstreamReset => exact kept (keepsCount_map (orphanEntry_owner s.up.forward) rfl rfl rfl)
  case hostGrant ready _ => exact starvationCounted_hostGrant hs ready
  case copyReadIssue => exact kept (.inl rfl)
  case copyWithdrawn => exact kept (.inl rfl)
  case copyWriteIssue => exact kept (.inl rfl)
  case scrubReadGrant => exact kept (.inl rfl)
  case scrubWritebackGrant => exact kept (.inl rfl)
  case hostAnswer e rest tag _ st data _ hf _ _ =>
    exact kept (keepsCount_trans (keepsCount_popFifo s hf)
      (keepsCount_congr (by simp) (by simp [ctx_attributeHost]) (by simp)))
  case orphanAnswer e rest tag _ st _ hf _ _ =>
    exact kept (keepsCount_trans (keepsCount_popFifo s hf)
      (keepsCount_congr (by simp) (by simp [ctx_attributeHost]) (by simp)))
  case absorbed hf _ => exact kept (keepsCount_popFifo s hf)
  case copyReadAnswer rest c st data _ hf _ hc hp =>
    have hn : (s.popFifo rest).migPresents = false := migPresents_of_phase hc (by simp [hp])
    exact kept (keepsCount_trans (keepsCount_popFifo s hf) (keepsCount_copyReadAnswer hn _ _ _))
  case endOfCopy rest c _ hf _ hc hp =>
    have hn : (s.popFifo rest).migPresents = false := migPresents_of_phase hc (by simp [hp])
    exact kept (keepsCount_trans (keepsCount_popFifo s hf) (keepsCount_ctx (by simp) (by simp)
      fun h => absurd (hn.symm.trans h) Bool.false_ne_true))
  case scrubAttributed hf _ =>
    exact kept (keepsCount_trans (keepsCount_popFifo s hf)
      (keepsCount_congr (by simp) (by simp [ctx_attributeScrub]) (by simp)))
  case scrubReadAnswer rest l st data _ hf _ hl hp =>
    have hn : (s.popFifo rest).scrubPresents = false :=
      scrubPresents_of_phase hl (by simp [hp]) (by simp [hp])
    exact kept (keepsCount_trans (keepsCount_popFifo s hf)
      (keepsCount_line (by simp) (by simp [ctx_attributeScrub]) hn))
  case scrubWritten rest l _ hf _ hl hp =>
    have hn : (s.popFifo rest).scrubPresents = false :=
      scrubPresents_of_phase hl (by simp [hp]) (by simp [hp])
    exact kept (keepsCount_trans (keepsCount_popFifo s hf) (keepsCount_line (by simp) (by simp) hn))
  case fault => exact kept (.inl (by rw [enterFault_dp]))
  case notReady => exact kept (.inl (by rw [enterFault_dp]))
  case dpReadyRise =>
    exact kept (keepsCount_trans (t := s.setPins { s.pins with dpReady := true }) (.inr ⟨rfl, id⟩)
      (keepsCount_downstreamEntry _))
  case releasePulse => exact kept (keepsCount_releasePulse s)
  case downstreamEntry => exact kept (keepsCount_downstreamEntry s)
  case recover => exact kept (.inr ⟨rfl, id⟩)
  case beginMigration q rest i cur nx _ hc _ _ =>
    exact kept (keepsCount_trans (t := s.putQueue rest) (.inr ⟨rfl, id⟩) (beginMigration_migPresents _ q i cur nx hc))
  case abort => exact kept (keepsCount_abortMigration s _ _)
  case scrubBegin hl => exact kept (keepsCount_line (by simp) (by simp) (scrubPresents_of_no_line hl))
  case scrubRun => exact kept (keepsCount_congr rfl rfl rfl)
  case scrubStop => exact kept (keepsCount_settled rfl)
  case powerOn => exact kept (.inl rfl)
  case powerOnEnd rise =>
    exact kept (keepsCount_trans (keepsCount_congr (by simp) (by simp) (by simp)) (keepsCount_releaseReset _))
  case deviceReset => exact kept (.inl rfl)
  case deviceEnd rise =>
    exact kept (keepsCount_trans (keepsCount_congr (by simp) (by simp) (by simp)) (keepsCount_releaseReset _))
  case writeTimeout => exact kept (.inr ⟨rfl, id⟩)
  all_goals exact kept (keepsCount_congr (by simp) (by simp) (by simp))

theorem keepsCount_advance (s : State) : KeepsCount s s.advance := by
  unfold State.advance
  dsimp only
  split <;> exact .inr ⟨rfl, id⟩

/-- Settles O12: the count changes at grants, which follow R143, and becomes 0 wherever the last requester that
presents is taken away. -/
theorem starvationStaysCounted : Obligations.StarvationStaysCounted :=
  keptByStep_of_effect (fun _ _ _ _ h => h)
    (fun s hs => starvationCounted_of_keepsCount hs (keepsCount_advance s)) fun _ _ _ => starvationCounted_of_effect

end Sys2Proof.Proofs
end

section
/-! SUPPORT. The scrubber is RUNNING only while the downstream link is UP (R96, R108, Tables 5-1 and 5-3), and the
statement O10. -/

namespace Sys2Proof.Proofs

open Sys2Proof Sys2Proof.Machine Sys2Proof.Claims

variable {s u : State} {l : ScrubLine}

/-! ### What the relation reads -/

/-- The scrubber's fields agree with each other: timer and line only while RUNNING, the line at the cursor. -/
def ScrubberOk (p : Scrubber) : Prop :=
  p.timer.isSome = p.state.isRunning ∧ (p.line.isSome = true → p.state.isRunning = true) ∧
    ∀ l ∈ p.line, l.inRange p.cursor

theorem scrubberFollowsLink_iff :
    ScrubberFollowsLink s ↔ (s.psc.state.isRunning = true → s.dp.link = .up) ∧ ScrubberOk s.psc := Iff.rfl

/-- The link stays UP or enters it, and the scrubber's fields stand. -/
theorem scrubberFollowsLink_congr (hs : ScrubberFollowsLink s) (hp : u.psc = s.psc)
    (hd : u.dp.link = s.dp.link ∨ u.dp.link = .up) : ScrubberFollowsLink u := by
  obtain ⟨hlink, hok⟩ := hs
  rw [scrubberFollowsLink_iff, hp]
  exact ⟨fun h => hd.elim (fun he => he.trans (hlink h)) id, hok⟩

/-- A scrubber that is not RUNNING has neither timer nor line. -/
theorem scrubberFollowsLink_stopped (hr : u.psc.state.isRunning = false) (ht : u.psc.timer = none)
    (hl : u.psc.line = none) : ScrubberFollowsLink u := by
  rw [scrubberFollowsLink_iff, ScrubberOk, hr, ht, hl]
  exact ⟨nofun, rfl, nofun, nofun⟩

/-- A scrubber that is not RUNNING takes any cursor and any such state. -/
theorem stopped_of_not_running (hs : ScrubberFollowsLink s) (hr : s.psc.state.isRunning = false) :
    s.psc.timer = none ∧ s.psc.line = none := by
  obtain ⟨-, htimer, hline, -⟩ := hs
  rw [hr] at htimer hline
  exact ⟨by simpa using htimer, by simpa using hline⟩

/-- RUNNING with its timer and no line. -/
theorem scrubberFollowsLink_running (hd : u.dp.link = .up) (hr : u.psc.state.isRunning = true)
    (ht : u.psc.timer.isSome = true) (hl : ∀ l ∈ u.psc.line, l.inRange u.psc.cursor) : ScrubberFollowsLink u :=
  ⟨fun _ => hd, by rw [ht, hr], fun _ => hr, hl⟩

/-- A change of the line in hand alone (Table 5-3). -/
theorem scrubberFollowsLink_line (hs : ScrubberFollowsLink s) (hl : s.psc.line = some l) {l' : ScrubLine}
    (hl' : l'.inRange s.psc.cursor) (hp : u.psc = { s.psc with line := some l' }) (hd : u.dp.link = s.dp.link) :
    ScrubberFollowsLink u := by
  obtain ⟨hlink, htimer, hline, -⟩ := hs
  have hrun := hline (by rw [hl]; rfl)
  rw [scrubberFollowsLink_iff, hp, hd]
  refine ⟨hlink, htimer, fun _ => hrun, fun x hx => ?_⟩
  obtain rfl := Option.some.inj hx
  exact hl'

/-! ### Cursor and line (R97, R99, R107) -/

/-- A move of the cursor with no line in hand: the cursor moves, or a wrap in mode SINGLE ends scrubbing. -/
theorem moveCursor_psc (s : State) (n : Nat) :
    (∃ cursor, (s.moveCursor n).psc = { s.psc with cursor := cursor }) ∨
      (s.moveCursor n).psc = { s.psc with state := .idle, timer := none, cursor := 0 } := by
  unfold State.moveCursor State.passWrap
  split
  · exact .inl ⟨_, rfl⟩
  · dsimp only
    split
    · exact .inr rfl
    · exact .inl ⟨0, rfl⟩

theorem scrubberFollowsLink_moveCursor (hs : ScrubberFollowsLink s) (hl : s.psc.line = none) (n : Nat) :
    ScrubberFollowsLink (s.moveCursor n) ∧ (s.moveCursor n).psc.line = none := by
  obtain ⟨hlink, htimer, hline, -⟩ := hs
  rcases moveCursor_psc s n with ⟨cursor, hp⟩ | hp
  · refine ⟨?_, by rw [hp]; exact hl⟩
    rw [scrubberFollowsLink_iff, ScrubberOk, hp]
    exact ⟨by simpa using hlink, htimer, hline, by simp [hl]⟩
  · refine ⟨scrubberFollowsLink_stopped ?_ ?_ ?_, ?_⟩ <;> rw [hp]
    · rfl
    · exact hl
    · exact hl

theorem scrubberFollowsLink_dropLine (hs : ScrubberFollowsLink s) : ScrubberFollowsLink (s.putLine none) := by
  obtain ⟨hlink, htimer, -, -⟩ := hs
  exact ⟨hlink, htimer, nofun, nofun⟩

theorem scrubberFollowsLink_endLine (hs : ScrubberFollowsLink s) : ScrubberFollowsLink s.endLine :=
  (scrubberFollowsLink_moveCursor (scrubberFollowsLink_dropLine hs) rfl _).1

theorem scrubberFollowsLink_rowSkip (hs : ScrubberFollowsLink s) (hl : s.psc.line = none) :
    ScrubberFollowsLink s.rowSkip ∧ s.rowSkip.psc.line = none := by
  refine scrubberFollowsLink_moveCursor (s := s.bump .skippedRows) ?_ ?_ _
  · exact hs
  · exact hl

theorem begin_inRange (cursor : Fin 33546240) : (ScrubLine.begin cursor).inRange cursor := by
  simp [ScrubLine.inRange, ScrubLine.begin]

theorem scrubberFollowsLink_beginScrubLine (n : Nat) (hs : ScrubberFollowsLink s) (hl : s.psc.line = none) :
    ScrubberFollowsLink (State.beginScrubLine n s) := by
  induction n generalizing s with
  | zero => exact hs
  | succ n ih =>
    unfold State.beginScrubLine
    split
    next hrun =>
      split
      · obtain ⟨hskip, hline⟩ := scrubberFollowsLink_rowSkip hs hl
        exact ih hskip hline
      · obtain ⟨hlink, htimer, -, -⟩ := hs
        refine scrubberFollowsLink_running (hlink hrun) hrun (htimer.trans hrun) fun l hl => ?_
        obtain rfl := Option.some.inj hl
        exact begin_inRange _
    · exact hs

theorem inRange_of_line (hs : ScrubberFollowsLink s) (hl : s.psc.line = some l) : l.inRange s.psc.cursor := by
  obtain ⟨-, -, -, hrange⟩ := hs
  exact hrange l hl

theorem noticedLine_inRange {cursor : Fin 33546240} (hl : l.inRange cursor) (r : HostRecord) :
    (noticedLine r l).inRange cursor := by
  unfold noticedLine
  split
  next h =>
    obtain ⟨-, -, -, hphase⟩ := h
    obtain ⟨hcursor, hrec, hbuf, -⟩ := hl
    exact ⟨hcursor, hrec, hbuf, fun ha => by rcases hphase with hp | hp <;> simp [hp] at ha⟩
  · exact hl

/-! ### Grants and answers -/

theorem scrubberFollowsLink_hostGrant (hs : ScrubberFollowsLink s) : ScrubberFollowsLink s.hostGrant := by
  cases hf : s.up.forward with
  | nil => rwa [hostGrant_of_empty hf]
  | cons tag rest =>
    cases hr : s.record tag with
    | none =>
      rw [hostGrant_of_no_record hf hr]
      exact hs
    | some r =>
      rw [hostGrant_eq hf hr]
      obtain ⟨hlink, htimer, hline, hrange⟩ := hs
      refine ⟨hlink, htimer, fun h => hline (by simpa using h), fun l hl => ?_⟩
      obtain ⟨l', hl', rfl⟩ := Option.map_eq_some_iff.mp hl
      exact noticedLine_inRange (hrange l' hl') r

theorem scrubberFollowsLink_scrubReadGrant (hs : ScrubberFollowsLink s) (hl : s.psc.line = some l)
    (hp : l.phase = .awaitRead) : ScrubberFollowsLink (s.scrubReadGrant l) := by
  unfold State.scrubReadGrant
  dsimp only
  split
  · exact (scrubberFollowsLink_rowSkip (scrubberFollowsLink_dropLine hs) rfl).1
  · obtain ⟨hcursor, -, hbuf, hint⟩ := inRange_of_line hs hl
    refine scrubberFollowsLink_line hs hl ?_ rfl rfl
    refine ⟨hcursor, by simp, ?_, nofun⟩
    simpa [hp] using hbuf

theorem scrubberFollowsLink_scrubWritebackGrant (hs : ScrubberFollowsLink s) (hl : s.psc.line = some l)
    (hp : l.phase = .awaitWriteback) : ScrubberFollowsLink (s.scrubWritebackGrant l) := by
  unfold State.scrubWritebackGrant
  split
  · exact scrubberFollowsLink_endLine (s := s.bump .wbDropped) hs
  · obtain ⟨hcursor, hrec, -, -⟩ := inRange_of_line hs hl
    refine scrubberFollowsLink_line hs hl ?_ rfl rfl
    refine ⟨hcursor, ?_, by simp, nofun⟩
    simpa [hp] using hrec

theorem scrubberFollowsLink_scrubReadAnswer (hs : ScrubberFollowsLink s) (hl : s.psc.line = some l)
    (hp : l.phase = .reading) (st : AnswerStatus) (data : List Byte) :
    ScrubberFollowsLink (s.scrubReadAnswer l st data) := by
  unfold State.scrubReadAnswer
  cases st with
  | ok | ue => exact scrubberFollowsLink_endLine hs
  | ce =>
    dsimp only
    split
    · obtain ⟨hcursor, hrec, -, -⟩ := inRange_of_line hs hl
      refine scrubberFollowsLink_line hs hl ?_ rfl rfl
      refine ⟨hcursor, ?_, by simp, nofun⟩
      simpa [hp] using hrec
    · exact scrubberFollowsLink_endLine hs

/-! ### The link (R108) -/

theorem scrubberFollowsLink_enterFault (hs : ScrubberFollowsLink s) (reason : FaultReason) :
    ScrubberFollowsLink (s.enterFault reason) := by
  have hp : (s.enterFault reason).psc =
      ((((s.failHost.faultPort reason).bump .dlinkFaults).raise .link).abortMigration .abortedDownstream
        true).pauseScrubber.psc := rfl
  have hbefore : ((((s.failHost.faultPort reason).bump .dlinkFaults).raise .link).abortMigration .abortedDownstream
      true).psc = s.psc := by simp
  cases hst : s.psc.state with
  | running m =>
    have hpause : (s.enterFault reason).psc = { s.psc with state := .paused m, timer := none, line := none } := by
      rw [hp, State.pauseScrubber, hbefore, hst]
      simp
    exact scrubberFollowsLink_stopped (by rw [hpause]; rfl) (by rw [hpause]) (by rw [hpause])
  | idle | paused m =>
    have hpause : (s.enterFault reason).psc = s.psc := by
      rw [hp, State.pauseScrubber, hbefore, hst]
      exact hbefore
    obtain ⟨ht, hl⟩ := stopped_of_not_running hs (by rw [hst]; rfl)
    exact scrubberFollowsLink_stopped (by rw [hpause, hst]; rfl) (hpause ▸ ht) (hpause ▸ hl)

theorem scrubberFollowsLink_downstreamEntry (hs : ScrubberFollowsLink s) : ScrubberFollowsLink s.downstreamEntry := by
  unfold State.downstreamEntry State.resumeScrubber
  split
  · dsimp only
    split
    next m hst =>
      have hline : s.psc.line = none :=
        (stopped_of_not_running hs (by rw [show s.psc.state = .paused m from hst]; rfl)).2
      refine scrubberFollowsLink_running rfl rfl rfl fun l hl => ?_
      exact absurd (hline.symm.trans hl) nofun
    · exact scrubberFollowsLink_congr hs rfl (.inr rfl)
  · exact hs

theorem scrubberFollowsLink_releasePulse (hs : ScrubberFollowsLink s) : ScrubberFollowsLink s.releasePulse := by
  refine scrubberFollowsLink_downstreamEntry ?_
  exact scrubberFollowsLink_congr hs rfl (.inl rfl)

theorem scrubberFollowsLink_releaseReset (hs : ScrubberFollowsLink s) : ScrubberFollowsLink s.releaseReset := by
  have hend : ScrubberFollowsLink s.endReset := by
    have hentry : ScrubberFollowsLink (s.setRst { s.rst with force := .none, hold := none }).upstreamEntry :=
      scrubberFollowsLink_congr hs (by simp) (.inl (by simp))
    unfold State.endReset
    dsimp only
    split
    · exact scrubberFollowsLink_releasePulse hentry
    · exact hentry
  unfold State.releaseReset
  split
  · exact hs
  · split
    · exact hend
    · exact hs
  · split
    · exact hend
    · exact hs

theorem abortMigration_link (s : State) (o : MigOutcome) (a : Bool) :
    (s.abortMigration o a).dp.link = s.dp.link := by
  obtain ⟨f, n, -, -, hd⟩ := abortMigration_dp s o a
  rw [hd]

theorem copyReadAnswer_link (s : State) (c : MigContext) (e : FifoEntry) (st : AnswerStatus) (data : List Byte) :
    (s.copyReadAnswer c e st data).dp.link = s.dp.link := by
  unfold State.copyReadAnswer
  split
  · exact retryDecision_link s c
  · cases st <;> simp

theorem copyReadAnswer_psc (s : State) (c : MigContext) (e : FifoEntry) (st : AnswerStatus) (data : List Byte) :
    (s.copyReadAnswer c e st data).psc = s.psc := by
  unfold State.copyReadAnswer
  split
  · simp
  · cases st <;> simp

@[simp] theorem popFifo_link (s : State) (rest : List FifoEntry) : (s.popFifo rest).dp.link = s.dp.link := rfl

/-! ### The interval and the actions (R98, R99, R109) -/

theorem isSome_of_isDue {t : Option Interval} (h : isDue t = true) : t.isSome = true := by
  cases t with
  | none => cases h
  | some t => rfl

/-- The interval timer runs while RUNNING alone, and its restart keeps it running. -/
theorem scrubberFollowsLink_interval (hs : ScrubberFollowsLink s) (hdue : isDue s.psc.timer = true) (n : Nat) :
    ScrubberFollowsLink (s.setPsc { s.psc with timer := startTimer n }) := by
  obtain ⟨hlink, htimer, -, hrange⟩ := hs
  have hrun : s.psc.state.isRunning = true := htimer ▸ isSome_of_isDue hdue
  exact scrubberFollowsLink_running (hlink hrun) hrun rfl hrange

theorem not_running_of_idle (hi : s.psc.state = .idle) : s.psc.state.isRunning = false := by
  rw [hi]
  rfl

/-! ### Every effect -/

theorem scrubberFollowsLink_granted (hs : ScrubberFollowsLink u) (n : Nat) (ready : Bool) :
    ScrubberFollowsLink (afterGrant (u.putStarvation n) ready) :=
  scrubberFollowsLink_congr hs rfl (.inl rfl)

theorem scrubberFollowsLink_of_effect {c : Instr} (he : Effect s c u) (hs : ScrubberFollowsLink s) :
    ScrubberFollowsLink u := by
  cases he
  case hostGrant => exact scrubberFollowsLink_granted (scrubberFollowsLink_hostGrant hs) _ _
  case copyReadIssue => exact scrubberFollowsLink_congr hs rfl (.inl rfl)
  case copyWriteIssue => exact scrubberFollowsLink_congr hs rfl (.inl rfl)
  case copyWithdrawn =>
    exact scrubberFollowsLink_granted
      (scrubberFollowsLink_congr hs (by simp) (.inl (retryDecision_link s _))) _ _
  case scrubReadGrant hl hp _ => exact scrubberFollowsLink_granted (scrubberFollowsLink_scrubReadGrant hs hl hp) _ _
  case scrubWritebackGrant hl hp _ =>
    exact scrubberFollowsLink_granted (scrubberFollowsLink_scrubWritebackGrant hs hl hp) _ _
  case copyReadAnswer =>
    exact scrubberFollowsLink_congr hs (copyReadAnswer_psc _ _ _ _ _) (.inl (copyReadAnswer_link _ _ _ _ _))
  case scrubReadAnswer e rest l st data _ _ _ hl hp =>
    have ha : ScrubberFollowsLink ((s.popFifo rest).attributeScrub e.home e.line st) :=
      scrubberFollowsLink_congr hs (by simp) (.inl (by simp [State.popFifo]))
    exact scrubberFollowsLink_scrubReadAnswer ha (by simpa using hl) hp st data
  case scrubWritten rest _ _ _ _ _ _ =>
    refine scrubberFollowsLink_endLine ?_
    exact scrubberFollowsLink_congr hs rfl (.inl rfl)
  case fault => exact scrubberFollowsLink_enterFault hs _
  case notReady =>
    refine scrubberFollowsLink_enterFault ?_ _
    exact hs
  case dpReadyRise =>
    refine scrubberFollowsLink_downstreamEntry ?_
    exact hs
  case releasePulse => exact scrubberFollowsLink_releasePulse hs
  case downstreamEntry => exact scrubberFollowsLink_downstreamEntry hs
  case recover hl =>
    obtain ⟨hlink, hok⟩ := hs
    exact ⟨fun h => absurd ((hlink h).symm.trans hl) nofun, hok⟩
  case abort => exact scrubberFollowsLink_congr hs (by simp) (.inl (abortMigration_link _ _ _))
  case writeTimeout => exact scrubberFollowsLink_congr hs rfl (.inl rfl)
  case scrubInterval hdue => exact scrubberFollowsLink_interval hs hdue _
  case scrubBegin hdue hl => exact scrubberFollowsLink_beginScrubLine 129 (scrubberFollowsLink_interval hs hdue _) hl
  case scrubRun hi hl =>
    obtain ⟨-, hline⟩ := stopped_of_not_running hs (not_running_of_idle hi)
    exact scrubberFollowsLink_running hl rfl rfl fun l h => absurd (hline.symm.trans h) nofun
  case scrubPause hi =>
    obtain ⟨htimer, hline⟩ := stopped_of_not_running hs (not_running_of_idle hi)
    exact scrubberFollowsLink_stopped rfl htimer hline
  case scrubStop => exact scrubberFollowsLink_stopped (by simp; rfl) (by simp) (by simp)
  case powerOn => exact scrubberFollowsLink_stopped rfl rfl rfl
  case powerOnEnd =>
    refine scrubberFollowsLink_releaseReset ?_
    exact scrubberFollowsLink_congr hs (by simp) (.inl (by simp))
  case deviceReset => exact scrubberFollowsLink_stopped rfl rfl rfl
  case deviceEnd =>
    refine scrubberFollowsLink_releaseReset ?_
    exact scrubberFollowsLink_congr hs (by simp) (.inl (by simp))
  all_goals exact scrubberFollowsLink_congr hs (by simp [upstreamReset]) (.inl (by simp [upstreamReset]))

theorem scrubberFollowsLink_advance (hs : ScrubberFollowsLink s) : ScrubberFollowsLink s.advance := by
  obtain ⟨hlink, htimer, hline, hrange⟩ := hs
  unfold State.advance
  dsimp only
  split
  · exact ⟨hlink, htimer, hline, hrange⟩
  · exact ⟨hlink, by simpa using htimer, hline, hrange⟩

/-- Settles O10: a fault, which alone takes the link out of UP, pauses the scrubber, and the entry to UP resumes it. -/
theorem scrubberStaysWithLink : Obligations.ScrubberStaysWithLink :=
  keptByStep_of_effect (fun _ _ _ _ h => h) (fun _ => scrubberFollowsLink_advance)
    fun _ _ _ => scrubberFollowsLink_of_effect

end Sys2Proof.Proofs
end

section
/-! SUPPORT. The migration context stays within Table 4-4, and the statement O9. -/

namespace Sys2Proof.Proofs

open Sys2Proof Sys2Proof.Machine Sys2Proof.Claims

variable {s u : State} {c : MigContext}

/-! ### The context after each event of the copy (R76 to R82) -/

theorem begin_ctx_inRange (slot : Fin 128) (source : Location) (target : Fin 16) (q : RepairRequest) :
    (MigContext.begin slot source target q).inRange := by
  simp [MigContext.inRange, MigContext.begin]

theorem noticedCtx_inRange (hc : c.inRange) (r : HostRecord) : (noticedCtx r c).inRange := by
  unfold noticedCtx
  split
  next h =>
    obtain ⟨-, -, -, hphase⟩ := h
    obtain ⟨h₁, h₂, h₃, h₄, -, h₆⟩ := hc
    refine ⟨h₁, h₂, h₃, h₄, fun hw ha => ?_, h₆⟩
    rcases hphase with hp | ⟨-, hp⟩
    · exact absurd (hp.symm.trans hw) nofun
    · exact absurd (hp.symm.trans ha) nofun
  · exact hc

/-- In WAIT and READING the line in hand is below 32. -/
theorem cursor_lt (hc : c.inRange) (hp : c.phase ≠ .writing) : c.cursor.val < 32 := by
  obtain ⟨hcursor, -⟩ := hc
  have hne : c.cursor.val ≠ 32 := fun h => hp (hcursor.mp h)
  omega

theorem readIssued_inRange (hc : c.inRange) (hp : c.phase = .wait) (ha : c.awaited = .copyRead) :
    MigContext.inRange { c with phase := .reading, overtaken := false } := by
  have hlt := cursor_lt hc (by simp [hp])
  obtain ⟨-, -, -, hbuf, -, hline, -, htotal, hpoisoned⟩ := hc
  have hnone : c.buffer.isSome = false := by simpa [hp, ha] using hbuf
  have hne : c.cursor.val ≠ 32 := Nat.ne_of_lt hlt
  exact ⟨by simp [hne], fun _ => ha, nofun, by simp [hnone], nofun, hline, nofun, htotal, hpoisoned⟩

/-- R81: a withdrawn COPY_WRITE takes its poisoned line out of the count. -/
theorem poisoned_withdrawn (hc : c.inRange) : c.withdrawn.poisoned ≤ c.cursor.val := by
  obtain ⟨-, -, -, -, -, -, -, -, hpoisoned, hpos⟩ := hc
  unfold MigContext.withdrawn
  dsimp only
  cases hb : c.buffer.any LineBuffer.poison <;> simp [hb] at hpoisoned hpos ⊢ <;> omega

/-- R78: a re-read below the limit. -/
theorem retry_inRange (hcursor : c.cursor.val < 32) (hline : c.lineRetries < 15)
    (htotal : c.totalRetries ≤ 15 * c.cursor.val + c.lineRetries) (hpoisoned : c.poisoned ≤ c.cursor.val) :
    c.retry.inRange := by
  have hne : c.cursor.val ≠ 32 := Nat.ne_of_lt hcursor
  refine ⟨by simp [MigContext.retry, hne], nofun, nofun, by simp [MigContext.retry], fun _ _ => rfl, hline, nofun, ?_,
    hpoisoned, nofun⟩
  have : c.retry.totalRetries = c.totalRetries + 1 ∧ c.retry.lineRetries = c.lineRetries + 1 ∧
      c.retry.cursor = c.cursor := ⟨rfl, rfl, rfl⟩
  omega

theorem written_inRange (hc : c.inRange) (hp : c.phase = .wait) (ho : c.overtaken = false) : c.written.inRange := by
  have hlt := cursor_lt hc (by simp [hp])
  obtain ⟨-, -, -, -, -, hline, -, htotal, hpoisoned, -⟩ := hc
  have hcursor : c.written.cursor.val = c.cursor.val + 1 := by
    simp [MigContext.written, Fin.ofNat]
    omega
  have hbuf : c.written.buffer = none := rfl
  have hcount : c.written.lineRetries = 0 ∧ c.written.totalRetries = c.totalRetries ∧
      c.written.poisoned = c.poisoned ∧ c.written.overtaken = false := ⟨rfl, rfl, rfl, ho⟩
  have hone : (c.buffer.any LineBuffer.poison).toNat ≤ 1 := Bool.toNat_le _
  obtain ⟨hretries, htotal', hpoisoned', hovertaken⟩ := hcount
  refine ⟨?_, ?_, ?_, ?_, fun _ _ => hovertaken, by omega, fun _ => hretries, by omega, ?_, by simp [hbuf]⟩
  · rw [hcursor]
    by_cases h31 : c.cursor.val < 31
    · simp [MigContext.written, h31]
      omega
    · simp [MigContext.written, h31]
      omega
  · by_cases h31 : c.cursor.val < 31 <;> simp [MigContext.written, h31]
  · by_cases h31 : c.cursor.val < 31 <;> simp [MigContext.written, h31]
  · by_cases h31 : c.cursor.val < 31 <;> simp [MigContext.written, h31]
  · rw [hbuf, hcursor]
    simp only [Option.any_none, Bool.toNat_false]
    omega

theorem filled_inRange (hc : c.inRange) (hp : c.phase = .reading) (data : List Byte) : (c.filled data).inRange := by
  have hne := Nat.ne_of_lt (cursor_lt hc (by simp [hp]))
  obtain ⟨-, -, -, hbuf, -, hline, -, htotal, hpoisoned, -⟩ := hc
  have hnone : c.buffer = none := by simpa [hp] using hbuf
  rw [hnone] at hpoisoned
  exact ⟨by simp [MigContext.filled, hne], nofun, nofun, by simp [MigContext.filled], nofun, hline, nofun, htotal,
    hpoisoned, nofun⟩

theorem poison_inRange (hc : c.inRange) (hp : c.phase = .reading) : c.poison.inRange := by
  have hne := Nat.ne_of_lt (cursor_lt hc (by simp [hp]))
  obtain ⟨-, -, -, hbuf, -, hline, -, htotal, hpoisoned, -⟩ := hc
  have hnone : c.buffer = none := by simpa [hp] using hbuf
  rw [hnone] at hpoisoned
  exact ⟨by simp [MigContext.poison, hne], nofun, nofun, by simp [MigContext.poison], nofun, hline, nofun, htotal,
    Nat.succ_le_succ hpoisoned, fun _ => Nat.succ_pos _⟩

/-! ### The context of the state -/

theorem ctxInRange_congr (hs : ∀ c ∈ s.mge.ctx, c.inRange) (h : u.mge.ctx = s.mge.ctx) : ∀ c ∈ u.mge.ctx, c.inRange :=
  h ▸ hs

theorem ctxInRange_none (h : u.mge.ctx = none) : ∀ c ∈ u.mge.ctx, c.inRange := by
  rw [h]
  exact nofun

theorem ctxInRange_some (hc : c.inRange) (h : u.mge.ctx = some c) : ∀ c ∈ u.mge.ctx, c.inRange := by
  rw [h]
  rintro c' hc'
  obtain rfl := Option.some.inj hc'
  exact hc

/-- R113: the retry limit of the operating profile is at most 15. -/
theorem retryLimit_le (hs : ProfilesInRange s) : s.operating.retryLimit ≤ 15 := by
  have hr := hs s.prf.opsel .retryLimit
  exact (fieldInRange_iff.mp hr).2

theorem ctxInRange_retryDecision (hs : ProfilesInRange s) (hcursor : c.cursor.val < 32)
    (htotal : c.totalRetries ≤ 15 * c.cursor.val + c.lineRetries) (hpoisoned : c.poisoned ≤ c.cursor.val) :
    ∀ c' ∈ (s.retryDecision c).mge.ctx, c'.inRange := by
  unfold State.retryDecision
  split
  · exact ctxInRange_none (abortMigration_ctx _ _ _)
  next hl =>
    have hline : c.lineRetries < 15 := (Nat.not_le.mp hl).trans_le (retryLimit_le hs)
    exact ctxInRange_some (retry_inRange hcursor hline htotal hpoisoned) rfl

theorem ctxInRange_copyReadAnswer (hs : ProfilesInRange s) (hc : c.inRange) (hp : c.phase = .reading) (e : FifoEntry)
    (st : AnswerStatus) (data : List Byte) : ∀ c' ∈ (s.copyReadAnswer c e st data).mge.ctx, c'.inRange := by
  unfold State.copyReadAnswer
  split
  · have hlt := cursor_lt hc (by simp [hp])
    obtain ⟨-, -, -, hbuf, -, -, -, htotal, hpoisoned, -⟩ := hc
    have hnone : c.buffer = none := by simpa [hp] using hbuf
    rw [hnone] at hpoisoned
    exact ctxInRange_retryDecision hs hlt htotal hpoisoned
  · cases st with
    | ok | ce => exact ctxInRange_some (filled_inRange hc hp data) rfl
    | ue => exact ctxInRange_some (poison_inRange hc hp) (by simp)

theorem endOfCopy_ctx (s : State) (c : MigContext) : (s.endOfCopy c).mge.ctx = none := by
  unfold State.endOfCopy
  split <;> simp

theorem ctxInRange_of_effect {i : Instr} (he : Effect s i u) (hprf : ProfilesInRange s)
    (hs : ∀ c ∈ s.mge.ctx, c.inRange) : ∀ c ∈ u.mge.ctx, c.inRange := by
  cases he
  case hostGrant =>
    cases hf : s.up.forward with
    | nil => exact ctxInRange_congr hs (by simp [afterGrant, hostGrant_of_empty hf])
    | cons tag rest =>
      cases hr : s.record tag with
      | none => exact ctxInRange_congr hs (by simp [afterGrant, hostGrant_of_no_record hf hr])
      | some r =>
        rintro c hc
        simp only [afterGrant, State.setPins_mge, State.putStarvation_frame, hostGrant_eq hf hr] at hc
        obtain ⟨c', hc', rfl⟩ := Option.map_eq_some_iff.mp hc
        exact noticedCtx_inRange (hs c' hc') r
  case copyReadIssue hctx hp _ ha => exact ctxInRange_some (readIssued_inRange (hs _ hctx) hp ha) rfl
  case copyWithdrawn c _ hctx hp _ _ =>
    have hc := hs _ hctx
    have hlt : c.cursor.val < 32 := cursor_lt hc (by simp [hp])
    have hpoisoned := poisoned_withdrawn hc
    obtain ⟨-, -, -, -, -, -, -, htotal, -⟩ := hc
    exact ctxInRange_retryDecision (c := c.withdrawn) hprf hlt htotal hpoisoned
  case copyWriteIssue hctx hp _ _ ho => exact ctxInRange_some (written_inRange (hs _ hctx) hp ho) rfl
  case hostAnswer => exact ctxInRange_congr hs (by simp [ctx_attributeHost])
  case orphanAnswer => exact ctxInRange_congr hs (by simp [ctx_attributeHost])
  case copyReadAnswer hctx hp => exact ctxInRange_copyReadAnswer (s := s.popFifo _) hprf (hs _ hctx) hp _ _ _
  case endOfCopy => exact ctxInRange_none (endOfCopy_ctx _ _)
  case scrubAttributed => exact ctxInRange_congr hs (by simp [ctx_attributeScrub])
  case scrubReadAnswer => exact ctxInRange_congr hs (by simp [ctx_attributeScrub])
  case fault => exact ctxInRange_none (by simp [State.enterFault])
  case notReady => exact ctxInRange_none (by simp [State.enterFault])
  case startFailure => exact ctxInRange_congr hs (by simp [State.startFailure])
  case beginMigration => exact ctxInRange_some (begin_ctx_inRange _ _ _ _) rfl
  case abort => exact ctxInRange_none (abortMigration_ctx _ _ _)
  case powerOn => exact ctxInRange_none rfl
  case deviceReset => exact ctxInRange_none (by simp [State.deviceResetValues])
  all_goals exact ctxInRange_congr hs (by simp [upstreamReset, afterGrant])

/-- Settles O9: each event of the copy keeps the ranges, the limit of re-reads being at most 15 in both profiles. -/
theorem copyStaysInRange : Obligations.CopyStaysInRange :=
  keptByStep_of_effect (fun _ _ _ _ h => h)
    (fun s hs => ⟨profilesInRange_congr (by simp) hs.1, ctxInRange_congr hs.2 (by simp)⟩)
    fun _ _ _ he hs => ⟨profilesInRange_of_effect he hs.1, ctxInRange_of_effect he hs.1 hs.2⟩

end Sys2Proof.Proofs
end

section
/-! SUPPORT. The reset in force agrees with its sources, with the blocks and with the frame state (R174, R175, R165),
and the statement O47. -/

namespace Sys2Proof.Proofs

open Sys2Proof Sys2Proof.Machine Sys2Proof.Claims

variable {s t u : State} {c : Instr}

/-! ### The parts of the relation -/

/-- The reset in force agrees with the sources that hold it. -/
def ForceOk (s : State) : Prop :=
  (s.rst.force = .none → s.pins.rstN = true ∧ s.rst.hold = none) ∧
    (s.rst.force = .powerOn → s.rst.hold = none) ∧ (s.rst.supplies = false → s.rst.force = .powerOn)

/-- The blocks but the management port hold the values that both kinds of reset leave. -/
def BlocksReset (s : State) : Prop :=
  s.up = UpstreamPort.powerOn ∧
    s.dp = { DownstreamPort.powerOn with pulse := s.dp.pulse } ∧ s.dp.pulse.isSome = true ∧
    s.psc = { s.psc with state := .idle, timer := none, line := none } ∧
    s.emn.decay = none ∧ s.mge.queue = [] ∧ s.mge.ctx = none ∧
    s.prf = ProfileBlock.default ∧ s.alc = AlertController.powerOn

/-- The management port agrees with the reset in force. -/
def PortReset (s : State) : Prop :=
  (s.mgp.frame = .receiving → s.rst.force = .none) ∧
    (s.rst.force ≠ .none → s.mgp = { ManagementPort.powerOn with frame := s.mgp.frame })

theorem resetCoherent_iff :
    ResetCoherent s ↔ ForceOk s ∧ (s.rst.force ≠ .none → BlocksReset s) ∧ PortReset s := by
  simp only [ResetCoherent, ForceOk, BlocksReset, PortReset, HoldsResetValues]
  tauto

theorem forceOk_congr (hs : ForceOk s) (hr : u.rst = s.rst) (hp : u.pins.rstN = s.pins.rstN) : ForceOk u := by
  simpa only [ForceOk, hr, hp] using hs

theorem blocksReset_congr (hs : BlocksReset s) (hup : u.up = s.up) (hdp : u.dp = s.dp) (hpsc : u.psc = s.psc)
    (hdecay : u.emn.decay = s.emn.decay) (hmge : u.mge = s.mge) (hprf : u.prf = s.prf) (halc : u.alc = s.alc) :
    BlocksReset u := by
  simpa only [BlocksReset, hup, hdp, hpsc, hdecay, hmge, hprf, halc] using hs

theorem abandoned_ne_receiving (x : FrameState) : x.abandoned ≠ .receiving := by
  cases x <;> nofun

/-! ### Starts of a reset -/

/-- What the start of a reset leaves (R174, R175, R176). -/
structure StartsReset (u : State) : Prop where
  blocks : BlocksReset u
  port : u.mgp = { ManagementPort.powerOn with frame := u.mgp.frame }
  frame : u.mgp.frame ≠ .receiving

theorem startsReset_powerOnValues (s : State) : StartsReset s.powerOnValues :=
  ⟨⟨rfl, rfl, rfl, rfl, rfl, rfl, rfl, rfl, rfl⟩, rfl, abandoned_ne_receiving _⟩

theorem startsReset_deviceResetValues (s : State) (kind : ResetKind) (hold : Option Interval) :
    StartsReset (s.deviceResetValues kind hold) := by
  obtain ⟨-, -, -, -, hemn, hmge, hpsc, hprf, hup, hdp, halc, hmgp, -⟩ := deviceResetValues_blocks s kind hold
  refine ⟨⟨hup, by rw [hdp], by rw [hdp]; rfl, by rw [hpsc], by rw [hemn], by rw [hmge], by rw [hmge], hprf, halc⟩,
    by rw [hmgp], by rw [hmgp]; exact abandoned_ne_receiving _⟩

/-! ### Sources of the reset -/

theorem forceOk_endReset (hr : s.pins.rstN = true) (hsup : s.rst.supplies = true) :
    ForceOk s.endReset := by
  have hrst : s.endReset.rst = { s.rst with force := .none, hold := none } := by
    unfold State.endReset
    dsimp only
    split <;> simp
  rw [ForceOk, hrst]
  exact ⟨fun _ => ⟨by simpa using hr, rfl⟩, nofun, fun h => absurd (hsup.symm.trans h) nofun⟩

theorem forceOk_releaseReset (hs : ForceOk s) : ForceOk s.releaseReset := by
  unfold State.releaseReset
  split
  · exact hs
  next hf =>
    split
    next h =>
      obtain ⟨hsup, hr⟩ := Bool.and_eq_true_iff.mp h
      exact forceOk_endReset hr hsup
    · exact hs
  next hf =>
    split
    next h =>
      have hsup : s.rst.supplies = true := by
        refine Bool.eq_true_of_not_eq_false fun hsup => ?_
        exact absurd (hf.symm.trans (hs.2.2 hsup)) nofun
      exact forceOk_endReset (Bool.and_eq_true_iff.mp h).1 hsup
    · exact hs

theorem rstRise_rstN (hr : s.pins.rstN = true) (rise : Bool) : (s.rstRise rise).pins.rstN = true := by
  cases rise
  · exact hr
  · rfl

theorem forceOk_rstRise (hs : ForceOk s) (rise : Bool) : ForceOk (s.rstRise rise) := by
  obtain ⟨hnone, hpower, hsup⟩ := hs
  rw [ForceOk, show (s.rstRise rise).rst = s.rst by simp]
  exact ⟨fun h => ⟨rstRise_rstN (hnone h).1 rise, (hnone h).2⟩, hpower, hsup⟩

theorem forceOk_of_effect (he : Effect s c u) (hs : ForceOk s) : ForceOk u := by
  cases he
  case powerOn => exact ⟨nofun, fun _ => rfl, fun _ => rfl⟩
  case powerOnEnd rise =>
    refine forceOk_releaseReset ?_
    obtain ⟨hnone, hpower, -⟩ := forceOk_rstRise hs rise
    exact ⟨by simpa using hnone, by simpa using hpower, nofun⟩
  case deviceReset p m w kind hold hf hsrc =>
    obtain ⟨-, hrst, -⟩ := deviceResetValues_blocks { s with pins := p, mgp := m, wires := w } kind hold
    rw [ForceOk, hrst]
    exact ⟨nofun, nofun, fun h => absurd (hf.symm.trans (hs.2.2 h)) nofun⟩
  case rstNFall hf =>
    obtain ⟨-, hpower, hsup⟩ := hs
    exact ⟨fun h => absurd h hf, hpower, hsup⟩
  case deviceEnd rise => exact forceOk_releaseReset (forceOk_rstRise hs rise)
  all_goals exact forceOk_congr hs (by simp [upstreamReset, afterGrant]) (by simp [upstreamReset, afterGrant])

/-! ### Outside a reset -/

theorem releaseReset_of_none (hf : s.rst.force = .none) : s.releaseReset = s := by
  unfold State.releaseReset
  rw [hf]

theorem powerOnEnd_of_none (hf : s.rst.force = .none) (rise : Bool) :
    (((s.rstRise rise).setRst { s.rst with supplies := true }).releaseReset).rst.force = .none := by
  rw [releaseReset_of_none] <;> exact hf

theorem deviceEnd_of_none (hf : s.rst.force = .none) (rise : Bool) :
    (s.rstRise rise).releaseReset.rst.force = .none := by
  have hrise : (s.rstRise rise).rst.force = .none := by simpa using hf
  rwa [releaseReset_of_none hrise]

/-- From a state with no reset in force, only a command that starts one leaves one in force. -/
theorem effect_awake (he : Effect s c u) (hf : s.rst.force = .none) :
    u.rst.force = .none ∨ (startsReset c = true ∧ StartsReset u) := by
  cases he
  case powerOn => exact .inr ⟨rfl, startsReset_powerOnValues s⟩
  case powerOnEnd rise => exact .inl (powerOnEnd_of_none hf rise)
  case deviceReset p m w kind hold _ hsrc => exact .inr ⟨hsrc, startsReset_deviceResetValues _ _ _⟩
  case deviceEnd rise => exact .inl (deviceEnd_of_none hf rise)
  case rstNFall hne => exact absurd hf hne
  all_goals
    left
    simpa [upstreamReset, afterGrant] using hf

/-! ### Within a reset -/

theorem upstreamEntry_of_reset (hf : s.rst.force ≠ .none) : s.upstreamEntry = s :=
  if_neg fun h => hf h.2.2.1

theorem downstreamEntry_of_pulse (hp : s.dp.pulse.isSome = true) : s.downstreamEntry = s :=
  if_neg fun h => by simp [h.2.1] at hp

theorem drainCheck_of_not_draining (hg : s.up.gate ≠ .draining) : s.drainCheck = s :=
  if_neg fun h => hg h.1

theorem clearCause_of_powerOn (ha : s.alc = AlertController.powerOn) (k : Cause) :
    (s.clearCause k).alc = AlertController.powerOn := by
  rw [clearCause_eq, ha]
  cases k <;> rfl

theorem orphaned_of_empty :
    (Vector.ofFn fun t => orphanRecord UpstreamPort.powerOn.forward t UpstreamPort.powerOn.hrt[t]) =
      UpstreamPort.powerOn.hrt := by
  refine Vector.ext fun i hi => ?_
  simp [UpstreamPort.powerOn, orphanRecord]

theorem blocksReset_upstreamReset (hb : BlocksReset s) : BlocksReset (upstreamReset s) := by
  obtain ⟨hup, hdp, hrest⟩ := hb
  refine ⟨?_, ?_, hrest⟩
  · simp only [upstreamReset, State.putFifo_frame, State.setUp_up, hup, orphaned_of_empty]
    rfl
  · have hfifo : s.dp.fifo = [] := by rw [hdp]; rfl
    simp only [upstreamReset, putFifo_dp, State.setUp_dp, State.setPins_dp, hfifo, List.map_nil]
    rw [hdp]
    rfl

theorem blocksReset_decayExpiry (hb : BlocksReset s) (l : List SuspectRecord) :
    BlocksReset (s.putSuspects l).startDecay := by
  obtain ⟨hup, hdp, hpulse, hpsc, -, hqueue, hctx, hprf, halc⟩ := hb
  have hdecay : (s.putSuspects l).startDecay.emn.decay = decayTimer (s.prf.profiles[s.prf.opsel]).decayInterval := rfl
  have hdefault : ∀ p, p = ProfileBlock.default → (p.profiles[p.opsel]).decayInterval = 0 := by
    rintro _ rfl
    rfl
  have hzero := hdefault s.prf hprf
  exact ⟨hup, hdp, hpulse, hpsc, by rw [hdecay, hzero]; rfl, hqueue, hctx, hprf, halc⟩

theorem blocksReset_releaseReset (hb : BlocksReset s) :
    BlocksReset s.releaseReset ∨ s.releaseReset.rst.force = .none := by
  have hend : s.endReset.rst.force = .none := by
    unfold State.endReset
    dsimp only
    split <;> simp
  unfold State.releaseReset
  split
  · exact .inl hb
  · split
    · exact .inr hend
    · exact .inl hb
  · split
    · exact .inr hend
    · exact .inl hb

/-- While a reset is in force no command that is not the end of a frame moves the blocks from their reset values. -/
theorem effect_asleep (he : Effect s c u) (hf : s.rst.force ≠ .none) (hc : isFrameEnd c = false) (hb : BlocksReset s) :
    BlocksReset u ∨ u.rst.force = .none := by
  have hblocks := hb
  obtain ⟨hup, hdp, hpulse, hpsc, hdecay, hqueue, hctx, hprf, halc⟩ := hblocks
  have hlink : ¬s.dp.link = .up := by
    rw [hdp]
    nofun
  have hfifo : s.dp.fifo = [] := by
    rw [hdp]
    rfl
  cases he
  case none => exact .inl hb
  case protocolError h | releasePulse h => exact absurd h hf
  case answerNow h =>
    rw [hup] at h
    exact absurd rfl h
  case forwardRequest h _ _ _ =>
    rw [hup] at h
    cases h
  case upstreamReset => exact .inl (blocksReset_upstreamReset hb)
  case upRelease =>
    rw [upstreamEntry_of_reset (s := s.setPins { s.pins with upRstN := true }) hf]
    exact .inl hb
  case upstreamEntry =>
    rw [upstreamEntry_of_reset hf]
    exact .inl hb
  case drainCheck =>
    rw [drainCheck_of_not_draining (by rw [hup]; nofun)]
    exact .inl hb
  case hostGrant h | copyReadIssue h _ _ _ _ | copyWithdrawn h _ _ _ _ | copyWriteIssue h _ _ _ _ _ |
      scrubReadGrant h _ _ _ | scrubWritebackGrant h _ _ _ | fault h | notReady h =>
    exact absurd h hlink
  case hostAnswer h _ _ _ | orphanAnswer h _ _ _ | absorbed h _ _ | copyReadAnswer h _ _ _ _ | endOfCopy h _ _ _ _ |
      scrubAttributed h _ _ | scrubReadAnswer h _ _ _ _ | scrubWritten h _ _ _ _ =>
    exact absurd h hlink
  case dpReadyRise =>
    rw [downstreamEntry_of_pulse (s := s.setPins { s.pins with dpReady := true }) hpulse]
    exact .inl hb
  case downstreamEntry =>
    rw [downstreamEntry_of_pulse hpulse]
    exact .inl hb
  case dpReadyFall | dpReqReady | rstNFall => exact .inl hb
  case startFailure h | beginMigration h _ _ _ =>
    rw [hqueue] at h
    cases h
  case abort =>
    rw [abortMigration_of_idle hctx]
    exact .inl hb
  case decayExpiry => exact .inl (blocksReset_decayExpiry hb _)
  case scrubInterval h | scrubBegin h _ =>
    rw [hpsc] at h
    cases h
  case clearCause k _ =>
    exact .inl ⟨by simpa using hup, by simpa using hdp, by simpa using hpulse, by simpa using hpsc,
      by simpa using hdecay,
      by simpa using hqueue, by simpa using hctx, by simpa using hprf, clearCause_of_powerOn halc k⟩
  case frameError => exact .inl hb
  case powerOn => exact .inl (startsReset_powerOnValues s).blocks
  case powerOnEnd rise =>
    refine blocksReset_releaseReset ?_
    exact blocksReset_congr hb (by simp) (by simp) (by simp) (by simp) (by simp) (by simp) (by simp)
  case deviceReset h _ => exact absurd h hf
  case deviceEnd rise =>
    refine blocksReset_releaseReset ?_
    exact blocksReset_congr hb (by simp) (by simp) (by simp) (by simp) (by simp) (by simp) (by simp)
  case writeField _ h | writeOpsel h | writeWrsel h | writeEnable h | writeTimeout h =>
    exact absurd (hc.symm.trans h) nofun
  all_goals exact absurd hc nofun

/-! ### The management port -/

theorem effect_mgp (he : Effect s c u) : u.mgp = s.mgp ∨ StartsReset u := by
  cases he
  case powerOn => exact .inr (startsReset_powerOnValues s)
  case deviceReset => exact .inr (startsReset_deviceResetValues _ _ _)
  all_goals
    left
    simp [upstreamReset, afterGrant]

theorem beginFrame_frame (s : State) :
    s.beginFrame.mgp = { s.mgp with frame := s.beginFrame.mgp.frame } ∧
      (s.beginFrame.mgp.frame = .receiving → s.mgp.frame = .receiving ∨ s.rst.force = .none) := by
  unfold State.beginFrame
  split
  · refine ⟨rfl, fun h => .inr ?_⟩
    cases hr : s.inReset
    · simpa [State.inReset] using hr
    · simp [State.setMgp, hr] at h
  · exact ⟨rfl, .inl⟩
  · exact ⟨rfl, .inl⟩

theorem resetCoherent_exec (hs : ResetCoherent s) (h : exec c s = .next t) : ResetCoherent t := by
  obtain ⟨hforce, hblocks, hframe, hport⟩ := resetCoherent_iff.mp hs
  obtain ⟨u, m, w, he, hstep, rfl⟩ := exec_reaches h
  have hu : ForceOk u := forceOk_of_effect he hforce
  refine resetCoherent_iff.mpr ⟨hu, ?_⟩
  cases hstep with
  | ended hus =>
    subst hus
    refine ⟨hblocks, nofun, fun hf => ?_⟩
    have hm := hport hf
    rw [hm]
  | begun hus =>
    subst hus
    obtain ⟨hbegun, hreceiving⟩ := beginFrame_frame u
    refine ⟨hblocks, fun hr => (hreceiving hr).elim hframe id, fun hf => ?_⟩
    have hm := hport hf
    dsimp only
    rw [hbegun, hm]
  | taken m hh hidle hsrc =>
    have hs₀ := force_of_hears hh
    have hu₀ : u.rst.force = .none := by
      rcases hsrc with hsrc | rfl
      · exact (effect_awake he hs₀).resolve_right fun hr => absurd (hsrc.symm.trans hr.1) nofun
      · exact hs₀
    exact ⟨fun hf => absurd hu₀ hf, fun _ => hu₀, fun hf => absurd hu₀ hf⟩
  | kept hheard =>
    by_cases hs₀ : s.rst.force = .none
    · rcases effect_awake he hs₀ with hu₀ | ⟨-, hr⟩
      · exact ⟨fun hf => absurd hu₀ hf, fun _ => hu₀, fun hf => absurd hu₀ hf⟩
      · exact ⟨fun _ => hr.blocks, fun h => absurd h hr.frame, fun _ => hr.port⟩
    · have hc : isFrameEnd c = false := hheard.resolve_right fun hh => hs₀ (force_of_hears hh)
      refine ⟨fun hf => (effect_asleep he hs₀ hc (hblocks hs₀)).resolve_right hf, ?_⟩
      rcases effect_mgp he with hm | hr
      · have hne : s.mgp.frame ≠ .receiving := fun hr => hs₀ (hframe hr)
        exact ⟨fun hr => absurd (hm ▸ hr) hne, fun _ => by have := hport hs₀; rw [hm]; exact this⟩
      · exact ⟨fun h => absurd h hr.frame, fun _ => hr.port⟩

theorem resetCoherent_advance (hs : ResetCoherent s) : ResetCoherent s.advance := by
  obtain ⟨hforce, hblocks, hframe, hport⟩ := resetCoherent_iff.mp hs
  have hrst : s.advance.rst = { s.rst with hold := s.rst.hold.map Interval.tick } := by
    unfold State.advance
    dsimp only
    split <;> rfl
  refine resetCoherent_iff.mpr ⟨?_, fun hf => ?_, ?_⟩
  · obtain ⟨hnone, hpower, hsup⟩ := hforce
    rw [ForceOk, hrst]
    exact ⟨fun h => ⟨by simpa using (hnone h).1, by simp [(hnone h).2]⟩, fun h => by simp [hpower h], hsup⟩
  · rw [hrst] at hf
    obtain ⟨hup, hdp, hpulse, hrest⟩ := hblocks hf
    have hin : s.inReset = true := by simpa [State.inReset] using hf
    simp only [State.advance, hin, if_true]
    refine ⟨hup, ?_, by simpa using hpulse, hrest⟩
    simp only [State.setDp_dp]
    rw [hdp]
  · rw [PortReset, hrst, show s.advance.mgp = s.mgp by simp]
    exact ⟨hframe, hport⟩

/-- Settles O47: a reset starts with its values, and while one is in force no command but its end moves them. -/
theorem resetsStayCoherent : Obligations.ResetsStayCoherent := by
  unfold Obligations.ResetsStayCoherent
  intro s t hs hstep
  unfold step at hstep
  split at hstep
  · exact Host.Outcome.next.inj hstep ▸ resetCoherent_advance hs
  next c rest _ =>
    refine resetCoherent_exec ?_ hstep
    exact hs

end Sys2Proof.Proofs
end

section
/-! SUPPORT. Host records, forward queue, legs in flight, credits, link and gate stay in agreement (R122, R123, R126,
R127, R130, R134), and the statement O13. -/

namespace Sys2Proof.Proofs

open Sys2Proof Sys2Proof.Machine Sys2Proof.Claims

variable {s u : State} {tag : Fin 64} {r : HostRecord} {flags : Fin 64 → List Bool} {e : FifoEntry}
  {rest l : List FifoEntry}

/-! ### The legs of a tag in flight -/

/-- The orphan flags of a tag's legs in the issue FIFO, oldest first. -/
def legFlags (l : List FifoEntry) (tag : Fin 64) : List Bool :=
  (l.filter fun e => e.hostTag == some tag).map FifoEntry.orphan

theorem length_legFlags (s : State) (tag : Fin 64) : (legFlags s.dp.fifo tag).length = s.legsInFlight tag := by
  rw [legFlags, List.length_map, State.legsInFlight, List.countP_eq_length_filter]

theorem forall_legFlags_iff (l : List FifoEntry) (tag : Fin 64) (x : Bool) :
    (∀ b ∈ legFlags l tag, b = x) ↔ ∀ e ∈ l, e.hostTag = some tag → e.orphan = x := by
  simp only [legFlags, List.forall_mem_map, List.mem_filter, beq_iff_eq, and_imp]

theorem legFlags_append (l l' : List FifoEntry) (tag : Fin 64) :
    legFlags (l ++ l') tag = legFlags l tag ++ legFlags l' tag := by
  simp [legFlags]

theorem legFlags_cons_same (hh : e.hostTag = some tag) : legFlags (e :: rest) tag = e.orphan :: legFlags rest tag := by
  simp [legFlags, hh]

theorem legFlags_cons_other (hh : e.hostTag ≠ some tag) : legFlags (e :: rest) tag = legFlags rest tag := by
  simp [legFlags, hh]

/-- Entries of no host leg do not count. -/
theorem legFlags_append_internal (hl : ∀ e ∈ rest, e.hostTag = none) (tag : Fin 64) :
    legFlags (l ++ rest) tag = legFlags l tag := by
  have hnil : legFlags rest tag = [] := by
    simp only [legFlags, List.map_eq_nil_iff, List.filter_eq_nil_iff]
    intro e he
    simp [hl e he]
  rw [legFlags_append, hnil, List.append_nil]

/-- A change of entries that leaves the host legs alone. -/
theorem legFlags_map {f : FifoEntry → FifoEntry} (htag : ∀ e, (f e).hostTag = e.hostTag)
    (horphan : ∀ e t, e.hostTag = some t → (f e).orphan = e.orphan) (l : List FifoEntry) (tag : Fin 64) :
    legFlags (l.map f) tag = legFlags l tag := by
  simp only [legFlags, List.filter_map, Function.comp_def, htag, List.map_map]
  refine List.map_congr_left fun e he => ?_
  exact horphan e tag (by simpa using (List.mem_filter.mp he).2)

theorem hostTag_congr {e e' : FifoEntry} (h : e.owner = e'.owner) : e.hostTag = e'.hostTag := by
  simp only [FifoEntry.hostTag, h]

/-- The orphaning of the COPY or of the SCRUB entries leaves the host legs alone (R85, R110). -/
theorem legFlags_orphanInternal {p : FifoEntry → Bool} (hp : ∀ e t, e.hostTag = some t → p e = false)
    (l : List FifoEntry) (tag : Fin 64) :
    legFlags (l.map fun e => if p e then { e with orphan := true } else e) tag = legFlags l tag :=
  legFlags_map (fun e => hostTag_congr (ite_orphan_owner p e)) (fun e t ht => by rw [hp e t ht]; rfl) l tag

theorem hostTag_eq_some_iff (e : FifoEntry) (t : Fin 64) : e.hostTag = some t ↔ ∃ leg, e.owner = .host t leg := by
  unfold FifoEntry.hostTag
  split
  next t' leg ho => simp [ho]
  next hne =>
    simp only [reduceCtorEq, false_iff]
    rintro ⟨leg, ho⟩
    exact hne t leg ho

theorem isCopy_of_hostTag (e : FifoEntry) (t : Fin 64) (h : e.hostTag = some t) : e.isCopy = false := by
  obtain ⟨leg, ho⟩ := (hostTag_eq_some_iff e t).mp h
  simp [isCopy_eq, ho]

theorem isScrub_of_hostTag (e : FifoEntry) (t : Fin 64) (h : e.hostTag = some t) : e.isScrub = false := by
  obtain ⟨leg, ho⟩ := (hostTag_eq_some_iff e t).mp h
  simp [isScrub_eq, ho]

/-! ### The relation, tag by tag -/

/-- A tag's record agrees with the flags of its legs in flight, with its place on the forward queue and with the
link. -/
def TagOk (flags : List Bool) (queued : Prop) (link : UpLink) : Option HostRecord → Prop
  | none => ¬queued ∧ flags = []
  | some r =>
    ((queued ∧ r.legsIssued = 0 ∧ r.legsAnswered = 0 ∧ r.orphan = false) ∨
        (¬queued ∧ r.legsAnswered < r.legsIssued ∧ r.legsIssued ≤ 2)) ∧
      flags.length + r.legsAnswered = r.legsIssued ∧ (∀ b ∈ flags, b = r.orphan) ∧ (r.orphan = true ↔ link = .down)

/-- What the rest of the upstream port keeps to. -/
def UpOk (s : State) : Prop :=
  s.up.forward.Nodup ∧ (s.up.link = .down → s.up.credits = 0) ∧
    (s.up.link = .up → s.pins.upRstN = true ∧ s.rst.force = .none) ∧
    s.up.credits + s.hrtCount ≤ 64 ∧ (s.up.gate = .closed → s.hrtEmpty = true)

/-- The upstream port agrees with these legs in flight. -/
def HostOk (s : State) (flags : Fin 64 → List Bool) : Prop :=
  (∀ tag, TagOk (flags tag) (tag ∈ s.up.forward) s.up.link (s.record tag)) ∧ UpOk s

theorem hostCoherent_iff : HostCoherent s ↔ HostOk s (legFlags s.dp.fifo) := by
  have htag : ∀ tag, TagOk (legFlags s.dp.fifo tag) (tag ∈ s.up.forward) s.up.link (s.record tag) ↔
      (∀ r ∈ s.record tag, RecordTracked s tag r ∧ (r.orphan = true ↔ s.up.link = .down)) ∧
        (s.record tag = none → tag ∉ s.up.forward ∧ s.legsInFlight tag = 0) := fun tag => by
    cases hr : s.record tag with
    | none => simp [TagOk, ← length_legFlags]
    | some r =>
      simp only [TagOk, RecordTracked, ← length_legFlags, forall_legFlags_iff, Option.mem_def, Option.some.injEq,
        forall_eq', reduceCtorEq, false_imp_iff, and_true, and_assoc]
  simp only [HostCoherent, HostOk, UpOk, htag, forall_and]
  tauto

theorem hostOk_congr (hs : HostOk s flags) (hup : u.up = s.up) (hp : u.pins.upRstN = s.pins.upRstN)
    (hr : u.rst.force = s.rst.force) : HostOk u flags := by
  simpa only [HostOk, UpOk, State.record, State.hrtCount, State.hrtEmpty, hup, hp, hr] using hs

theorem hostCoherent_congr (hs : HostCoherent s) (hup : u.up = s.up)
    (hf : ∀ tag, legFlags u.dp.fifo tag = legFlags s.dp.fifo tag) (hp : u.pins.upRstN = s.pins.upRstN)
    (hr : u.rst.force = s.rst.force) : HostCoherent u := by
  rw [hostCoherent_iff] at hs ⊢
  rw [show legFlags u.dp.fifo = legFlags s.dp.fifo from funext hf]
  exact hostOk_congr hs hup hp hr

/-! ### Counting records -/

theorem hrtEmpty_iff : s.hrtEmpty = true ↔ ∀ tag, s.record tag = none := by
  simp [State.hrtEmpty]

theorem hrtCount_le (s : State) : s.hrtCount ≤ 64 := by
  have h := List.countP_le_length (p := fun t => (s.record t).isSome) (l := List.finRange 64)
  rwa [List.length_finRange] at h

theorem hrtCount_of_empty (h : ∀ tag, s.record tag = none) : s.hrtCount = 0 := by
  simp [State.hrtCount, h]

/-- A count after the change of one element. -/
theorem countP_update {α : Type} {p q : α → Bool} {a : α} (h : ∀ x, x ≠ a → q x = p x) {l : List α}
    (hl : l.Nodup) (ha : a ∈ l) : l.countP q + (p a).toNat = l.countP p + (q a).toNat := by
  induction l with
  | nil => cases ha
  | cons b l ih =>
    obtain ⟨hb, hl'⟩ := List.nodup_cons.mp hl
    rw [List.countP_cons, List.countP_cons]
    by_cases hab : a = b
    · subst hab
      have hsame : l.countP q = l.countP p := List.countP_congr fun x hx => by
        rw [h x fun e => hb (e ▸ hx)]
      rw [hsame]
      cases p a <;> cases q a <;> simp
    · have hbq : q b = p b := h b fun e => hab e.symm
      have hi := ih hl' ((List.mem_cons.mp ha).resolve_left hab)
      rw [hbq]
      omega

/-- One record written: the count follows what was there before. -/
theorem hrtCount_putRecord (s : State) (tag : Fin 64) (x : Option HostRecord) :
    (s.putRecord tag x).hrtCount + (s.record tag).isSome.toNat = s.hrtCount + x.isSome.toNat := by
  have h := countP_update (p := fun t => (s.record t).isSome) (q := fun t => ((s.putRecord tag x).record t).isSome)
    (a := tag) (fun t ht => by rw [State.record_putRecord, if_neg ht]) (List.nodup_finRange 64) (List.mem_finRange tag)
  rwa [show ((s.putRecord tag x).record tag).isSome = x.isSome by rw [State.record_putRecord, if_pos rfl]] at h

/-! ### Link and gate -/

theorem hasOrphan_eq_false_iff : s.hasOrphan = false ↔ ∀ tag r, s.record tag = some r → r.orphan = false := by
  simp [State.hasOrphan, Option.any_eq_false]

theorem hostOk_upstreamEntry (hs : HostOk s flags) : HostOk s.upstreamEntry flags := by
  unfold State.upstreamEntry
  split
  next h =>
    obtain ⟨hdown, hpin, hforce, horphan⟩ := h
    obtain ⟨htags, hnodup, -, -, -, hgate⟩ := hs
    have hnone : ∀ tag, s.record tag = none := fun tag => by
      have ht := htags tag
      cases hr : s.record tag with
      | none => rfl
      | some r =>
        rw [hr] at ht
        obtain ⟨-, -, -, hiff⟩ := ht
        have hfalse := hasOrphan_eq_false_iff.mp horphan tag r hr
        exact absurd (hfalse.symm.trans (hiff.mpr hdown)) nofun
    have hnone' : ∀ tag, (s.setUp { s.up with link := .up, credits := Config.creditGrant }).record tag = none := hnone
    refine ⟨fun tag => ?_, hnodup, nofun, fun _ => ⟨hpin, hforce⟩, ?_, fun _ => hrtEmpty_iff.mpr hnone'⟩
    · have ht := htags tag
      rw [hnone tag] at ht
      rw [hnone' tag]
      exact ht
    · rw [hrtCount_of_empty hnone']
      exact Nat.le_refl 64
  · exact hs

theorem hostOk_gate (hs : HostOk s flags) {g : Gate} (hg : g = .closed → s.hrtEmpty = true) :
    HostOk (s.setUp { s.up with gate := g }) flags := by
  obtain ⟨htags, hnodup, hdown, hup, hcount, -⟩ := hs
  exact ⟨htags, hnodup, hdown, hup, hcount, hg⟩

theorem hostOk_drainCheck (hs : HostOk s flags) : HostOk s.drainCheck flags := by
  unfold State.drainCheck
  split
  next h => exact hostOk_gate hs fun _ => h.2
  · exact hs

theorem hostOk_empty (hup : u.up = UpstreamPort.powerOn) (hf : ∀ tag, flags tag = []) : HostOk u flags := by
  have hnone : ∀ tag, u.record tag = none := fun tag => by
    rw [State.record, hup]
    simp [UpstreamPort.powerOn]
  refine ⟨fun tag => ?_, ?_⟩
  · rw [hnone tag, hup]
    exact ⟨List.not_mem_nil, hf tag⟩
  · rw [UpOk, hrtCount_of_empty hnone, hup]
    exact ⟨List.nodup_nil, fun _ => rfl, nofun, Nat.zero_le _, fun _ => hrtEmpty_iff.mpr hnone⟩

/-! ### Requests (R124 to R126) -/

/-- Fewer credits while the records stand. -/
theorem hostOk_credits (hs : HostOk s flags) {n : Nat} (hn : n ≤ s.up.credits) {e : ProtocolError} :
    HostOk (s.setUp { s.up with credits := n, lastError := e }) flags := by
  obtain ⟨htags, hnodup, hdown, hup, hcount, hgate⟩ := hs
  refine ⟨htags, hnodup, fun h => ?_, hup, ?_, hgate⟩
  · have hz := hdown h
    exact Nat.le_zero.mp (hz ▸ hn)
  · exact (Nat.add_le_add_right hn _).trans hcount

theorem hostOk_forwardRequest (hs : HostOk s flags) (hl : s.up.link = .up) (hc : s.up.credits ≠ 0)
    (hr : s.record tag = none) (hg : s.up.gate = .opened) (kind : ReqKind) (h : HomeRow) (line : Fin 32)
    (msg : List Byte) : HostOk (s.forwardRequest tag (.accepted kind h line msg)) flags := by
  obtain ⟨htags, hnodup, hdown, hup, hcount, hgate⟩ := hs
  have ht := htags tag
  rw [hr] at ht
  obtain ⟨hqueued, hflags⟩ := ht
  have hrecord : ∀ t, (s.forwardRequest tag (.accepted kind h line msg)).record t =
      if t = tag then some (.accepted kind h line msg) else s.record t := fun t =>
    (s.setUp { s.up with credits := s.up.credits - 1, forward := s.up.forward ++ [tag] }).record_putRecord tag t _
  have hforward : (s.forwardRequest tag (.accepted kind h line msg)).up.forward = s.up.forward ++ [tag] := rfl
  have hlink : (s.forwardRequest tag (.accepted kind h line msg)).up.link = s.up.link := rfl
  have hcredits : (s.forwardRequest tag (.accepted kind h line msg)).up.credits = s.up.credits - 1 := rfl
  have hcount' : (s.forwardRequest tag (.accepted kind h line msg)).hrtCount = s.hrtCount + 1 := by
    have hput := hrtCount_putRecord
      (s.setUp { s.up with credits := s.up.credits - 1, forward := s.up.forward ++ [tag] })
      tag (some (.accepted kind h line msg))
    have hbefore : (s.setUp { s.up with credits := s.up.credits - 1, forward := s.up.forward ++ [tag] }).record tag =
        none := hr
    rw [hbefore] at hput
    exact hput
  refine ⟨fun t => ?_, ?_, ?_, fun _ => hup hl, ?_, fun hclosed => absurd (hg.symm.trans hclosed) nofun⟩
  · rw [hrecord, hforward, hlink]
    by_cases htt : t = tag
    · subst htt
      rw [if_pos rfl, hflags]
      exact ⟨.inl ⟨by simp, rfl, rfl, rfl⟩, rfl, nofun, by simp [hl, HostRecord.accepted]⟩
    · rw [if_neg htt]
      simpa [htt] using htags t
  · rw [hforward]
    exact List.nodup_append.mpr ⟨hnodup, List.nodup_singleton _, fun a ha b hb hab => hqueued
      (List.mem_singleton.mp hb ▸ hab ▸ ha)⟩
  · rw [hlink, hl]
    nofun
  · rw [hcredits, hcount']
    omega

theorem hostOk_answerNow (hs : HostOk s flags) (hc : s.up.credits ≠ 0) (tag : Fin 64) (status : HostStatus) :
    HostOk (s.answerNow tag status) flags := by
  rw [answerNow_eq hc]
  exact hs

/-! ### The reset of the upstream link (R134) -/

theorem upstreamReset_record (s : State) (tag : Fin 64) :
    (upstreamReset s).record tag =
      if tag ∈ s.up.forward then none else (s.record tag).map fun r => { r with orphan := true } := by
  have hof : (upstreamReset s).record tag = orphanRecord s.up.forward tag (s.record tag) := by
    simp [State.record, upstreamReset]
  rw [hof, orphanRecord]
  simp

theorem orphanEntry_hostTag (forward : List (Fin 64)) (e : FifoEntry) :
    (orphanEntry forward e).hostTag = e.hostTag :=
  hostTag_congr (orphanEntry_owner forward e)

/-- The legs in flight of a tag that does not wait on the queue become orphans, those of one that does stay. -/
theorem legFlags_orphanEntry (forward : List (Fin 64)) (l : List FifoEntry) (tag : Fin 64) :
    legFlags (l.map (orphanEntry forward)) tag =
      if tag ∈ forward then legFlags l tag else (legFlags l tag).map fun _ => true := by
  simp only [legFlags, List.filter_map, Function.comp_def, orphanEntry_hostTag, List.map_map]
  split
  next hf =>
    refine List.map_congr_left fun e he => ?_
    have htag : e.hostTag = some tag := by simpa using (List.mem_filter.mp he).2
    simp [orphanEntry, htag, hf]
  next hf =>
    refine List.map_congr_left fun e he => ?_
    have htag : e.hostTag = some tag := by simpa using (List.mem_filter.mp he).2
    simp [orphanEntry, htag, hf]

theorem hostCoherent_upstreamReset (hs : HostCoherent s) : HostCoherent (upstreamReset s) := by
  obtain ⟨htags, hnodup, hdown, hup, hcount, hgate⟩ := hostCoherent_iff.mp hs
  have hup' : (upstreamReset s).up.forward = [] ∧ (upstreamReset s).up.link = .down ∧
      (upstreamReset s).up.credits = 0 ∧ (upstreamReset s).up.gate = s.up.gate := ⟨rfl, rfl, rfl, rfl⟩
  obtain ⟨hforward, hlink, hcredits, hgate'⟩ := hup'
  have hfifo : (upstreamReset s).dp.fifo = s.dp.fifo.map (orphanEntry s.up.forward) := rfl
  refine hostCoherent_iff.mpr ⟨fun tag => ?_, ?_⟩
  · have ht := htags tag
    rw [upstreamReset_record, hforward, hlink, hfifo, legFlags_orphanEntry]
    cases hr : s.record tag with
    | none =>
      rw [hr] at ht
      obtain ⟨hqueued, hflags⟩ := ht
      simp [hflags, TagOk]
    | some r =>
      rw [hr] at ht
      obtain ⟨⟨hqueued, hissued, hanswered, horphan⟩ | ⟨hqueued, hlt, htwo⟩, hlegs, hall, hiff⟩ := ht
      · have hflags : legFlags s.dp.fifo tag = [] := List.length_eq_zero_iff.mp (by omega)
        simp [hqueued, hflags, TagOk]
      · simp [hqueued, TagOk, hlt, htwo, hlegs]
  · rw [UpOk, hforward, hlink, hcredits, hgate']
    refine ⟨List.nodup_nil, fun _ => rfl, nofun, by simpa using hrtCount_le _, fun hclosed => ?_⟩
    rw [hrtEmpty_iff]
    intro tag
    rw [upstreamReset_record, hrtEmpty_iff.mp (hgate hclosed) tag]
    simp

/-! ### The grant (R127) -/

theorem legFlags_legEntries (t tag : Fin 64) (r : HostRecord) (legs : List (Leg × Location)) :
    legFlags (legs.map (legEntry t r)) tag = if tag = t then List.replicate legs.length false else [] := by
  have hhost : ∀ x, (legEntry t r x).hostTag = some t := fun _ => rfl
  by_cases ht : tag = t
  · subst ht
    have hall : (legs.map (legEntry tag r)).filter (fun e => e.hostTag == some tag) = legs.map (legEntry tag r) := by
      rw [List.filter_eq_self]
      intro e he
      obtain ⟨x, -, rfl⟩ := List.mem_map.mp he
      simp [hhost]
    rw [legFlags, hall, List.map_map, if_pos rfl]
    exact List.map_const' ..
  · have hnone : (legs.map (legEntry t r)).filter (fun e => e.hostTag == some tag) = [] := by
      rw [List.filter_eq_nil_iff]
      intro e he
      obtain ⟨x, -, rfl⟩ := List.mem_map.mp he
      simpa [hhost] using fun h => ht h.symm
    rw [legFlags, hnone, if_neg ht]
    rfl

theorem length_translate_le (s : State) (kind : ReqKind) (h : HomeRow) (line : Fin 32) :
    (s.translate kind h line).length ≤ 2 := by
  unfold State.translate
  split
  · simp
  · split <;> simp

theorem hostCoherent_hostGrant (hs : HostCoherent s) : HostCoherent s.hostGrant := by
  cases hf : s.up.forward with
  | nil => rwa [hostGrant_of_empty hf]
  | cons tag rest =>
    obtain ⟨htags, hnodup, hdown, hup, hcount, hgate⟩ := hostCoherent_iff.mp hs
    obtain ⟨htail, hnodup'⟩ := List.nodup_cons.mp (hf ▸ hnodup)
    have hhead := htags tag
    cases hr : s.record tag with
    | none =>
      rw [hr] at hhead
      exact absurd (hf ▸ List.mem_cons_self) hhead.1
    | some r =>
      rw [hr] at hhead
      obtain ⟨⟨-, hissued, hanswered, horphan⟩ | ⟨hqueued, -⟩, hlegs, hall, hiff⟩ := hhead
      · obtain ⟨x, xs, hne⟩ := translate_ne_nil s r.kind r.home r.line
        have hflags : legFlags s.dp.fifo tag = [] := List.length_eq_zero_iff.mp (by omega)
        have hput := hrtCount_putRecord s tag
          (some { r with legsIssued := (s.translate r.kind r.home r.line).length })
        have hrecord := fun t => s.record_putRecord tag t
          (some { r with legsIssued := (s.translate r.kind r.home r.line).length })
        rw [hostGrant_eq hf hr, hostCoherent_iff]
        refine ⟨fun t => ?_, hnodup', hdown, hup, ?_, fun hclosed => ?_⟩
        · have hlegs' := legFlags_append s.dp.fifo ((s.translate r.kind r.home r.line).map (legEntry tag r)) t
          rw [legFlags_legEntries] at hlegs'
          have hrt := hrecord t
          dsimp only
          rw [hlegs']
          refine (congrArg (TagOk _ _ _) hrt).mpr ?_
          by_cases ht : t = tag
          · subst ht
            rw [if_pos rfl, if_pos rfl, hflags]
            refine ⟨.inr ⟨htail, ?_, length_translate_le ..⟩, by simp [hanswered], ?_, hiff⟩
            · rw [hanswered, hne]
              exact Nat.succ_pos _
            · simp [horphan]
          · rw [if_neg ht, if_neg ht, List.append_nil]
            have hmem : t ∈ rest ↔ t ∈ s.up.forward := by simp [hf, ht]
            rw [hmem]
            exact htags t
        · rw [hr] at hput
          have heq : (s.putRecord tag
              (some { r with legsIssued := (s.translate r.kind r.home r.line).length })).hrtCount =
              s.hrtCount := by simpa using hput
          exact heq ▸ hcount
        · have hempty := hrtEmpty_iff.mp (hgate hclosed) tag
          exact absurd (hempty.symm.trans hr) nofun
      · exact absurd (hf ▸ List.mem_cons_self) hqueued

end Sys2Proof.Proofs
end

section
/-! SUPPORT. The statement O13: answers, faults and resets keep the upstream port in agreement (R128, R129, R135). -/

namespace Sys2Proof.Proofs

open Sys2Proof Sys2Proof.Machine Sys2Proof.Claims

variable {s u : State} {tag : Fin 64} {r : HostRecord} {flags : Fin 64 → List Bool} {e : FifoEntry}
  {rest l : List FifoEntry}

/-! ### Answers (R128, R135) -/

/-- The flags after the oldest leg of a tag is answered. -/
theorem legFlags_popped (hf : s.dp.fifo = e :: rest) (hh : e.hostTag = some tag) (t : Fin 64) :
    legFlags s.dp.fifo t = if t = tag then e.orphan :: legFlags rest t else legFlags rest t := by
  rw [hf]
  split
  next ht =>
    subst ht
    exact legFlags_cons_same hh
  next ht => exact legFlags_cons_other fun h => ht (Option.some.inj (h.symm.trans hh))

/-- The record of a leg in flight: it waits for no grant, and the leg carries its orphan flag. -/
theorem record_of_leg (hs : HostCoherent s) (hf : s.dp.fifo = e :: rest) (hh : e.hostTag = some tag) :
    ∃ r, s.record tag = some r ∧ tag ∉ s.up.forward ∧ r.legsAnswered < r.legsIssued ∧ r.legsIssued ≤ 2 ∧
      (legFlags rest tag).length + 1 + r.legsAnswered = r.legsIssued ∧ (∀ b ∈ legFlags rest tag, b = r.orphan) ∧
      e.orphan = r.orphan ∧ (r.orphan = true ↔ s.up.link = .down) := by
  obtain ⟨htags, -⟩ := hostCoherent_iff.mp hs
  have ht := htags tag
  rw [legFlags_popped hf hh, if_pos rfl] at ht
  cases hr : s.record tag with
  | none =>
    rw [hr] at ht
    exact absurd ht.2 (List.cons_ne_nil _ _)
  | some r =>
    rw [hr] at ht
    obtain ⟨⟨-, hissued, -, -⟩ | ⟨hqueued, hlt, htwo⟩, hlegs, hall, hiff⟩ := ht
    · rw [hissued, List.length_cons] at hlegs
      omega
    · rw [List.length_cons] at hlegs
      exact ⟨r, rfl, hqueued, hlt, htwo, hlegs, fun b hb => hall b (List.mem_cons_of_mem _ hb),
        hall _ List.mem_cons_self, hiff⟩

/-- A tag's last leg answered: its record is gone, with `n` credits instead of those held. -/
theorem hostOk_removed (hs : HostCoherent s) (hf : s.dp.fifo = e :: rest) (hh : e.hostTag = some tag)
    (hr : s.record tag = some r) (hlast : r.legsAnswered + 1 = r.legsIssued)
    (hup : u.up = { (s.putRecord tag none).up with credits := u.up.credits })
    (hc : u.up.credits ≤ s.up.credits + 1) (hdown : s.up.link = .down → u.up.credits = 0)
    (hp : u.pins.upRstN = s.pins.upRstN) (hforce : u.rst.force = s.rst.force) : HostOk u (legFlags rest) := by
  obtain ⟨r', hr', hqueued, hlt, htwo, hlegs, hall, horphan, hiff⟩ := record_of_leg hs hf hh
  obtain rfl : r' = r := Option.some.inj (hr'.symm.trans hr)
  obtain ⟨htags, hnodup, -, hlink, hcount, hgate⟩ := hostCoherent_iff.mp hs
  have hfields : u.up.forward = s.up.forward ∧ u.up.link = s.up.link ∧ u.up.gate = s.up.gate := by
    rw [hup]
    exact ⟨rfl, rfl, rfl⟩
  obtain ⟨hforward, hul, hug⟩ := hfields
  have hrecord : ∀ t, u.record t = if t = tag then none else s.record t := fun t => by
    rw [State.record, hup]
    exact s.record_putRecord tag t none
  have hcount' : u.hrtCount + 1 = s.hrtCount := by
    have hput := hrtCount_putRecord s tag none
    rw [hr] at hput
    have heq : u.hrtCount = (s.putRecord tag none).hrtCount := by
      simp only [State.hrtCount, hrecord, State.record_putRecord]
    simpa [heq] using hput
  refine ⟨fun t => ?_, ?_, ?_, ?_, ?_, fun hclosed => ?_⟩
  · have ht := htags t
    rw [legFlags_popped hf hh] at ht
    rw [hrecord, hforward, hul]
    by_cases htt : t = tag
    · subst htt
      rw [if_pos rfl]
      exact ⟨hqueued, List.length_eq_zero_iff.mp (by omega)⟩
    · rw [if_neg htt] at ht ⊢
      exact ht
  · rwa [hforward]
  · rwa [hul]
  · rwa [hul, hp, hforce]
  · omega
  · have hempty := hrtEmpty_iff.mp (hgate (hug ▸ hclosed)) tag
    exact absurd (hempty.symm.trans hr) nofun

/-- A leg answered that is not the last: the record counts it. -/
theorem hostOk_counted (hs : HostCoherent s) (hf : s.dp.fifo = e :: rest) (hh : e.hostTag = some tag)
    (hr : s.record tag = some r) (hmore : r.legsAnswered + 1 ≠ r.legsIssued) {r' : HostRecord}
    (hissued : r'.legsIssued = r.legsIssued) (hanswered : r'.legsAnswered = r.legsAnswered + 1)
    (horphan : r'.orphan = r.orphan) : HostOk (s.putRecord tag (some r')) (legFlags rest) := by
  obtain ⟨r₀, hr₀, hqueued, hlt, htwo, hlegs, hall, -, hiff⟩ := record_of_leg hs hf hh
  obtain rfl : r₀ = r := Option.some.inj (hr₀.symm.trans hr)
  obtain ⟨htags, hnodup, hdown, hlink, hcount, hgate⟩ := hostCoherent_iff.mp hs
  have hput := hrtCount_putRecord s tag (some r')
  rw [hr] at hput
  have hcount' : (s.putRecord tag (some r')).hrtCount = s.hrtCount := by simpa using hput
  refine ⟨fun t => ?_, hnodup, hdown, hlink, hcount' ▸ hcount, fun hclosed => ?_⟩
  · have ht := htags t
    rw [legFlags_popped hf hh] at ht
    rw [State.record_putRecord]
    by_cases htt : t = tag
    · subst htt
      rw [if_pos rfl]
      refine ⟨.inr ⟨hqueued, by omega, by omega⟩, by omega, ?_, ?_⟩
      · rwa [horphan]
      · rwa [horphan]
    · rw [if_neg htt] at ht ⊢
      exact ht
  · have hempty := hrtEmpty_iff.mp (hgate hclosed) tag
    exact absurd (hempty.symm.trans hr) nofun

theorem hostCoherent_hostAnswer (hs : HostCoherent s) (hf : s.dp.fifo = e :: rest) {leg : Leg}
    (ho : e.owner = .host tag leg) (horphan : e.orphan = false) (st : AnswerStatus) (data : List Byte) :
    HostCoherent ((s.popFifo rest).hostAnswer tag st data) := by
  have hh : e.hostTag = some tag := (hostTag_eq_some_iff e tag).mpr ⟨leg, ho⟩
  obtain ⟨r, hr, -, -, -, -, -, hflag, hiff⟩ := record_of_leg hs hf hh
  have hr' : (s.popFifo rest).record tag = some r := hr
  have hfifo : ((s.popFifo rest).hostAnswer tag st data).dp.fifo = rest := by simp [State.popFifo]
  rw [hostCoherent_iff, hfifo]
  simp only [State.hostAnswer, hr']
  split
  next hlast =>
    refine hostOk_drainCheck ?_
    refine hostOk_removed hs hf hh hr hlast rfl (Nat.le_refl _) (fun hdown => ?_) rfl rfl
    have hyes : r.orphan = true := hiff.mpr hdown
    exact absurd (horphan.symm.trans (hflag.trans hyes)) nofun
  next hmore =>
    refine hostOk_congr (hostOk_counted hs hf hh hr hmore (r' := r.answered st data) rfl rfl rfl) rfl rfl rfl

theorem hostCoherent_orphanAnswer (hs : HostCoherent s) (hf : s.dp.fifo = e :: rest) {leg : Leg}
    (ho : e.owner = .host tag leg) (horphan : e.orphan = true) :
    HostCoherent ((s.popFifo rest).orphanAnswer tag) := by
  have hh : e.hostTag = some tag := (hostTag_eq_some_iff e tag).mpr ⟨leg, ho⟩
  obtain ⟨r, hr, -, -, -, -, -, hflag, hiff⟩ := record_of_leg hs hf hh
  have hr' : (s.popFifo rest).record tag = some r := hr
  have hfifo : ((s.popFifo rest).orphanAnswer tag).dp.fifo = rest := by simp [State.popFifo]
  rw [hostCoherent_iff, hfifo]
  simp only [State.orphanAnswer, hr']
  split
  next hlast =>
    have hdown : s.up.link = .down := hiff.mp (hflag.symm.trans horphan)
    have hzero : s.up.credits = 0 := (hostCoherent_iff.mp hs).2.2.1 hdown
    refine hostOk_drainCheck (hostOk_upstreamEntry ?_)
    exact hostOk_removed hs hf hh hr hlast rfl (Nat.le_succ _) (fun _ => hzero) rfl rfl
  next hmore =>
    refine hostOk_congr (hostOk_counted hs hf hh hr hmore (r' := { r with legsAnswered := r.legsAnswered + 1 })
      rfl rfl rfl) rfl rfl rfl

/-! ### Faults (R129) -/

theorem nodup_firstTags (l : List (Fin 64)) : (firstTags l).Nodup := by
  induction l with
  | nil => exact List.nodup_nil
  | cons t ts ih => exact List.nodup_cons.mpr ⟨by simp, ih.filter _⟩

theorem mem_failedTags (h : tag ∈ s.failedTags) : ∃ r, s.record tag = some r ∧ r.orphan = false := by
  have hany := (List.mem_filter.mp h).2
  simpa [Option.any_eq_true] using hany

/-- Each tag answered FAILED has a record of its own. -/
theorem length_failedTags_le (s : State) : s.failedTags.length ≤ s.hrtCount := by
  have hnodup : s.failedTags.Nodup := (nodup_firstTags _).filter _
  have hsub : s.failedTags ⊆ (List.finRange 64).filter fun t => (s.record t).isSome := fun t ht => by
    obtain ⟨r, hr, -⟩ := mem_failedTags ht
    simp [hr]
  rw [State.hrtCount, List.countP_eq_length_filter]
  exact (List.subperm_of_subset hnodup hsub).length_le

theorem failedTags_of_down (hs : HostCoherent s) (hdown : s.up.link = .down) : s.failedTags = [] := by
  obtain ⟨htags, -⟩ := hostCoherent_iff.mp hs
  refine List.eq_nil_iff_forall_not_mem.mpr fun tag h => ?_
  obtain ⟨r, hr, horphan⟩ := mem_failedTags h
  have ht := htags tag
  rw [hr] at ht
  obtain ⟨-, -, -, hiff⟩ := ht
  exact absurd (horphan.symm.trans (hiff.mpr hdown)) nofun

/-- The HRT flushed and each tag answered FAILED, before the drain and the link are looked at (R129). -/
def flushedHost (s : State) : State :=
  (s.setUp { s.up with credits := s.up.credits + s.failedTags.length, hrt := Vector.replicate 64 none,
                       forward := [] }).setWires
    { s.wires with upTx := s.wires.upTx ++ s.failedTags.map fun t => responseBytes t .failed [] }

theorem failHost_eq (s : State) : s.failHost = (flushedHost s).drainCheck.upstreamEntry := rfl

@[simp] theorem flushedHost_record (s : State) (t : Fin 64) : (flushedHost s).record t = none := by
  simp [State.record, flushedHost]

theorem hostOk_failHost (hs : HostCoherent s) (hf : ∀ tag, flags tag = []) : HostOk s.failHost flags := by
  obtain ⟨-, -, hdown, hlink, hcount, -⟩ := hostCoherent_iff.mp hs
  have hnone : ∀ t, (flushedHost s).record t = none := flushedHost_record s
  rw [failHost_eq]
  refine hostOk_upstreamEntry (hostOk_drainCheck ⟨fun t => ?_, List.nodup_nil, fun hd => ?_, hlink, ?_,
    fun _ => hrtEmpty_iff.mpr hnone⟩)
  · rw [hf, hnone]
    exact ⟨List.not_mem_nil, rfl⟩
  · have hzero : s.up.credits = 0 := hdown hd
    have hlen : s.failedTags.length = 0 := by rw [failedTags_of_down hs hd]; rfl
    exact Nat.add_eq_zero_iff.mpr ⟨hzero, hlen⟩
  · rw [hrtCount_of_empty hnone, Nat.add_zero]
    exact (Nat.add_le_add_left (length_failedTags_le s) _).trans hcount

theorem enterFault_up (s : State) (reason : FaultReason) : (s.enterFault reason).up = s.failHost.up := by
  simp [State.enterFault]

theorem hostCoherent_enterFault (hs : HostCoherent s) (reason : FaultReason) : HostCoherent (s.enterFault reason) := by
  have hfifo : (s.enterFault reason).dp.fifo = [] := by rw [enterFault_dp]
  rw [hostCoherent_iff, hfifo]
  exact hostOk_congr (hostOk_failHost hs fun _ => rfl) (enterFault_up s reason) (by simp) (by simp)

/-! ### Resets -/

theorem hostCoherent_upstreamEntry (hs : HostCoherent s) : HostCoherent s.upstreamEntry := by
  have hfifo : s.upstreamEntry.dp = s.dp := by simp
  rw [hostCoherent_iff, hfifo]
  exact hostOk_upstreamEntry (hostCoherent_iff.mp hs)

theorem hostCoherent_force (hs : HostCoherent s) (hold : Option Interval) :
    HostCoherent (s.setRst { s.rst with force := .none, hold := hold }) := by
  obtain ⟨htags, hnodup, hdown, hlink, hcount, hgate⟩ := hostCoherent_iff.mp hs
  exact hostCoherent_iff.mpr ⟨htags, hnodup, hdown, fun h => ⟨(hlink h).1, rfl⟩, hcount, hgate⟩

theorem releasePulse_fifo (s : State) : s.releasePulse.dp.fifo = s.dp.fifo := by
  rcases downstreamEntry_dp (s.setDp { s.dp with pulse := none }) with hd | ⟨-, -, hd⟩ <;> rw [State.releasePulse, hd]
  · rfl
  · rfl

theorem hostCoherent_releaseReset (hs : HostCoherent s) : HostCoherent s.releaseReset := by
  have hentry := hostCoherent_upstreamEntry (hostCoherent_force hs none)
  have hend : HostCoherent s.endReset := by
    unfold State.endReset
    dsimp only
    split
    · exact hostCoherent_congr hentry (by simp) (fun tag => by rw [releasePulse_fifo]) (by simp) (by simp)
    · exact hentry
  unfold State.releaseReset
  split
  · exact hs
  · split
    · exact hend
    · exact hs
  · split
    · exact hend
    · exact hs

theorem hostCoherent_powerOn (hup : u.up = UpstreamPort.powerOn) (hdp : u.dp = DownstreamPort.powerOn) :
    HostCoherent u := by
  rw [hostCoherent_iff, hdp]
  exact hostOk_empty hup fun _ => rfl

/-! ### Internal requests -/

theorem legFlags_issue (s : State) (he : e.hostTag = none) (request : List Byte) (tag : Fin 64) :
    legFlags (s.issue e request).dp.fifo tag = legFlags s.dp.fifo tag := by
  rw [issue_eq]
  exact legFlags_append_internal (fun x hx => List.mem_singleton.mp hx ▸ he) tag

theorem abortMigration_fifo (s : State) (o : MigOutcome) (a : Bool) :
    (s.abortMigration o a).dp.fifo = s.dp.fifo ∨ (s.abortMigration o a).dp.fifo = orphanCopies s.dp.fifo := by
  cases hc : s.mge.ctx with
  | none => exact .inl (by rw [abortMigration_of_idle hc])
  | some c =>
    have hsettle : ∀ t : State, t.settleStarvation.dp.fifo = t.dp.fifo := fun t => by
      unfold State.settleStarvation
      split <;> rfl
    right
    simp only [State.abortMigration, hc, hsettle]
    cases a <;> simp

theorem legFlags_abortMigration (s : State) (o : MigOutcome) (a : Bool) (tag : Fin 64) :
    legFlags (s.abortMigration o a).dp.fifo tag = legFlags s.dp.fifo tag := by
  rcases abortMigration_fifo s o a with h | h <;> rw [h]
  exact legFlags_orphanInternal isCopy_of_hostTag s.dp.fifo tag

theorem hostCoherent_abortMigration (hs : HostCoherent s) (o : MigOutcome) (a : Bool) :
    HostCoherent (s.abortMigration o a) :=
  hostCoherent_congr hs (by simp) (legFlags_abortMigration s o a) (by simp) (by simp)

theorem hostCoherent_retryDecision (hs : HostCoherent s) (c : MigContext) : HostCoherent (s.retryDecision c) := by
  unfold State.retryDecision
  split
  · refine hostCoherent_abortMigration ?_ _ _
    exact hs
  · exact hs

theorem hostCoherent_copyReadAnswer (hs : HostCoherent s) (c : MigContext) (e : FifoEntry) (st : AnswerStatus)
    (data : List Byte) : HostCoherent (s.copyReadAnswer c e st data) := by
  unfold State.copyReadAnswer
  split
  · exact hostCoherent_retryDecision hs c
  · cases st with
    | ok | ce => exact hs
    | ue => exact hostCoherent_congr hs (by simp) (by simp) (by simp) (by simp)

/-- The oldest entry removed where it is no host leg. -/
theorem hostCoherent_popFifo (hs : HostCoherent s) (hf : s.dp.fifo = e :: rest)
    (he : e.owner = .copy ∨ e.owner = .scrub) :
    HostCoherent (s.popFifo rest) := by
  have hnone : ∀ t, e.hostTag ≠ some t := fun t h => by
    obtain ⟨leg, ho⟩ := (hostTag_eq_some_iff e t).mp h
    rcases he with he | he <;> exact absurd (he.symm.trans ho) nofun
  refine hostCoherent_congr hs rfl (fun tag => ?_) rfl rfl
  rw [hf, legFlags_cons_other (hnone tag)]
  rfl

theorem hostCoherent_scrubReadGrant (hs : HostCoherent s) (l : ScrubLine) : HostCoherent (s.scrubReadGrant l) := by
  unfold State.scrubReadGrant
  dsimp only
  split
  · exact hostCoherent_congr hs (by simp) (by simp) (by simp) (by simp)
  · refine hostCoherent_congr hs rfl (fun tag => ?_) rfl rfl
    exact legFlags_issue s rfl [] tag

theorem hostCoherent_scrubWritebackGrant (hs : HostCoherent s) (l : ScrubLine) :
    HostCoherent (s.scrubWritebackGrant l) := by
  unfold State.scrubWritebackGrant
  split
  · exact hostCoherent_congr hs (by simp) (by simp) (by simp) (by simp)
  · refine hostCoherent_congr hs rfl (fun tag => ?_) rfl rfl
    exact legFlags_issue s rfl [] tag

theorem downstreamEntry_fifo (s : State) : s.downstreamEntry.dp.fifo = s.dp.fifo := by
  rcases downstreamEntry_dp s with hd | ⟨-, -, hd⟩ <;> rw [hd]

theorem advance_fifo (s : State) : s.advance.dp.fifo = s.dp.fifo := by
  unfold State.advance
  split <;> rfl

theorem advance_force (s : State) : s.advance.rst.force = s.rst.force := by
  unfold State.advance
  split <;> rfl

/-! ### Every effect -/

theorem hostCoherent_of_effect {c : Instr} (he : Effect s c u) (hs : HostCoherent s) : HostCoherent u := by
  have hok := hostCoherent_iff.mp hs
  cases he
  case protocolError => exact hostCoherent_iff.mpr (hostOk_credits hok (Nat.sub_le _ 1))
  case answerNow hc => exact hostCoherent_iff.mpr (hostOk_answerNow hok hc _ _)
  case forwardRequest hl hc hr hg => exact hostCoherent_iff.mpr (hostOk_forwardRequest hok hl hc hr hg _ _ _ _)
  case upstreamReset => exact hostCoherent_upstreamReset hs
  case upRelease =>
    refine hostCoherent_upstreamEntry ?_
    obtain ⟨htags, hnodup, hdown, hlink, hcount, hgate⟩ := hok
    exact hostCoherent_iff.mpr ⟨htags, hnodup, hdown, fun h => ⟨rfl, (hlink h).2⟩, hcount, hgate⟩
  case upstreamEntry => exact hostCoherent_upstreamEntry hs
  case drainCheck =>
    have hdp : s.drainCheck.dp = s.dp := by simp
    rw [hostCoherent_iff, hdp]
    exact hostOk_drainCheck hok
  case gateOpen => exact hostCoherent_iff.mpr (hostOk_gate hok nofun)
  case gateDrain =>
    refine hostCoherent_iff.mpr (hostOk_gate hok fun h => ?_)
    exact Bool.eq_true_of_not_eq_false fun hne => by simp [hne] at h
  case hostGrant =>
    exact hostCoherent_congr (hostCoherent_hostGrant hs) rfl (fun _ => rfl) (by simp [afterGrant])
      (by simp [afterGrant])
  case copyReadIssue =>
    exact hostCoherent_congr hs rfl (legFlags_issue s rfl []) rfl rfl
  case copyWriteIssue => exact hostCoherent_congr hs rfl (legFlags_issue s rfl []) rfl rfl
  case copyWithdrawn =>
    exact hostCoherent_congr (hostCoherent_retryDecision hs _) rfl (fun _ => rfl) (by simp [afterGrant])
      (by simp [afterGrant])
  case scrubReadGrant l _ _ _ _ =>
    exact hostCoherent_congr (hostCoherent_scrubReadGrant hs l) rfl (fun _ => rfl) (by simp [afterGrant])
      (by simp [afterGrant])
  case scrubWritebackGrant l _ _ _ _ =>
    exact hostCoherent_congr (hostCoherent_scrubWritebackGrant hs l) rfl (fun _ => rfl) (by simp [afterGrant])
      (by simp [afterGrant])
  case hostAnswer st data _ hf ho horphan =>
    exact hostCoherent_congr (hostCoherent_hostAnswer hs hf ho horphan st data) (by simp) (by simp) (by simp) (by simp)
  case orphanAnswer hf ho horphan =>
    exact hostCoherent_congr (hostCoherent_orphanAnswer hs hf ho horphan) (by simp) (by simp) (by simp) (by simp)
  case absorbed hf ho => exact hostCoherent_popFifo hs hf ho
  case copyReadAnswer hf ho _ _ => exact hostCoherent_copyReadAnswer (hostCoherent_popFifo hs hf (.inl ho)) _ _ _ _
  case endOfCopy hf ho _ _ =>
    exact hostCoherent_congr (hostCoherent_popFifo hs hf (.inl ho)) (by simp) (by simp) (by simp) (by simp)
  case scrubAttributed hf ho =>
    exact hostCoherent_congr (hostCoherent_popFifo hs hf (.inr ho)) (by simp) (by simp) (by simp) (by simp)
  case scrubReadAnswer hf ho _ _ =>
    exact hostCoherent_congr (hostCoherent_popFifo hs hf (.inr ho)) (by simp) (by simp) (by simp) (by simp)
  case scrubWritten hf ho _ _ =>
    exact hostCoherent_congr (hostCoherent_popFifo hs hf (.inr ho)) (by simp) (by simp) (by simp) (by simp)
  case fault => exact hostCoherent_enterFault hs _
  case notReady =>
    refine hostCoherent_enterFault ?_ _
    exact hs
  case dpReadyRise =>
    exact hostCoherent_congr hs (by simp) (fun _ => by rw [downstreamEntry_fifo]; rfl) (by simp) (by simp)
  case releasePulse => exact hostCoherent_congr hs (by simp) (fun _ => by rw [releasePulse_fifo]) (by simp) (by simp)
  case downstreamEntry =>
    exact hostCoherent_congr hs (by simp) (fun _ => by rw [downstreamEntry_fifo]) (by simp) (by simp)
  case recover => exact hs
  case abort => exact hostCoherent_abortMigration hs _ _
  case scrubStop =>
    have hsettle : ∀ t : State, t.settleStarvation.dp.fifo = t.dp.fifo := fun t => by
      unfold State.settleStarvation
      split <;> rfl
    refine hostCoherent_congr hs (by simp) (fun tag => ?_) (by simp) (by simp)
    rw [hsettle]
    exact legFlags_orphanInternal isScrub_of_hostTag s.dp.fifo tag
  case writeTimeout => exact hs
  case powerOn => exact hostCoherent_powerOn rfl rfl
  case powerOnEnd =>
    refine hostCoherent_releaseReset ?_
    exact hostCoherent_congr hs (by simp) (by simp) (by cases ‹Bool› <;> rfl) (by simp)
  case deviceReset => exact hostCoherent_powerOn rfl rfl
  case deviceEnd =>
    refine hostCoherent_releaseReset ?_
    exact hostCoherent_congr hs (by simp) (by simp) (by cases ‹Bool› <;> rfl) (by simp)
  all_goals exact hostCoherent_congr hs (by simp) (by simp) (by simp) (by simp)

/-- Settles O13: a record comes with its place on the queue, its legs with its grant, and each answer takes one leg. -/
theorem hostStaysCoherent : Obligations.HostStaysCoherent :=
  keptByStep_of_effect (fun _ _ _ _ h => h)
    (fun s hs => hostCoherent_congr hs (by simp) (fun _ => by rw [advance_fifo]) (by simp) (advance_force s))
    fun _ _ _ => hostCoherent_of_effect

end Sys2Proof.Proofs
end

section
/-! SUPPORT. Management frames: what an action's body answers, the results that COMMAND frames write (sections 10.2 and
10.3), and the statements O19 and O20. -/

namespace Sys2Proof.Proofs

open Sys2Proof Sys2Proof.Machine Sys2Proof.Claims

variable {s u : State} {r : Reply} {a : Action} {args : List Byte} {c : Instr}

/-! ### What a body answers -/

/-- A DONE payload has 1 to 132 bytes (Table 10-2). -/
def ReplyFits : Reply → Prop
  | .done p => 1 ≤ p.length ∧ p.length ≤ 132
  | _ => True

/-- A body's answer to `s`: a reply that fits the buffer, and a next state that leaves the management port and what was
sent to the answer. -/
structure Answers (s : State) (x : Reply × State) : Prop where
  fits : ReplyFits x.1
  mgp : x.2.mgp = s.mgp
  wires : x.2.wires = s.wires

theorem Answers.same (hr : ReplyFits r) : Answers s (r, s) := ⟨hr, rfl, rfl⟩

theorem answers_remapLoad (args : List Byte) (s : State) : Answers s (remapLoadBody args s) := by
  unfold remapLoadBody
  split
  next h sp _ _ =>
    unfold remapLoad
    split
    · exact .same trivial
    · split
      · exact .same trivial
      · split
        · exact .same trivial
        · split
          · exact .same trivial
          · exact ⟨by simp [ReplyFits], by simp, by simp⟩
  · exact .same trivial

theorem fits_remapPayload (i : Fin 128) (e : RemapEntry) : ReplyFits (.done (remapPayload i e)) := by
  simp [ReplyFits, remapPayload, HomeRow.bytes, be16]

theorem fits_entryPayload {i : Fin 128} {e : RemapEntry} (h : s.rmt[i] = some e) :
    ReplyFits (.done (s.entryPayload i)) := by
  rw [State.entryPayload, h]
  exact fits_remapPayload i e

theorem answers_remapRead (args : List Byte) (s : State) : Answers s (remapReadBody args s) := by
  unfold remapReadBody
  split
  · exact .same trivial
  · split
    · exact .same trivial
    · exact .same (fits_remapPayload _ _)

theorem answers_remapFind (args : List Byte) (s : State) : Answers s (remapFindBody args s) := by
  unfold remapFindBody
  split
  · exact .same trivial
  · split
    · exact .same trivial
    next hs =>
      obtain ⟨e, he, -⟩ := State.slotOf_some hs
      exact .same (fits_entryPayload he)

theorem answers_spareStatus (s : State) : Answers s (spareStatusBody s) := by
  refine ⟨?_, by simp [spareStatusBody], by simp [spareStatusBody]⟩
  simp [spareStatusBody, ReplyFits, List.length_flatMap, State.bankReport]

theorem answers_spareRetire (args : List Byte) (s : State) : Answers s (spareRetireBody args s) := by
  unfold spareRetireBody
  split
  · unfold spareRetire
    split
    · exact .same trivial
    · split
      · exact .same trivial
      · exact ⟨by simp [ReplyFits], by simp, by simp⟩
  · exact .same trivial

theorem fits_suspectPayload (n : Nat) (x : SuspectRecord) : ReplyFits (.done (suspectPayload n x)) := by
  simp [ReplyFits, suspectPayload, HomeRow.bytes, be16]

theorem answers_suspectRead (args : List Byte) (s : State) : Answers s (suspectReadBody args s) := by
  unfold suspectReadBody
  split
  · exact .same trivial
  · split
    · exact .same trivial
    · exact .same (fits_suspectPayload _ _)

theorem answers_suspectClear (args : List Byte) (s : State) : Answers s (suspectClearBody args s) := by
  unfold suspectClearBody
  split
  · exact .same trivial
  · unfold suspectClear
    split
    · exact .same trivial
    · split
      · exact .same trivial
      · exact ⟨fits_suspectPayload _ _, by simp, by simp⟩

theorem answers_candidateList (hs : s.emn.suspects.length ≤ 32) : Answers s (candidateListBody s) := by
  refine ⟨?_, by simp [candidateListBody], by simp [candidateListBody]⟩
  have hlen : s.candidates.length ≤ 32 := (List.length_filter_le _ _).trans hs
  simp [candidateListBody, ReplyFits, List.length_flatMap, HomeRow.bytes, be16]
  omega

theorem answers_lossRead (s : State) : Answers s (lossReadBody s) := by
  unfold lossReadBody
  split
  · exact .same trivial
  · refine ⟨by simp [ReplyFits, lossPayload, HomeRow.bytes, be16], ?_, ?_⟩ <;> dsimp only <;> split <;> simp

theorem answers_repairRequest (args : List Byte) (s : State) : Answers s (repairRequestBody args s) := by
  unfold repairRequestBody
  split
  · exact .same trivial
  · split
    · exact .same trivial
    · unfold repairRequest
      split
      · exact .same trivial
      · split
        · exact .same trivial
        · split
          · exact .same trivial
          · exact ⟨by simp [ReplyFits], by simp, by simp⟩

theorem answers_repairCancel (args : List Byte) (s : State) : Answers s (repairCancelBody args s) := by
  unfold repairCancelBody
  split
  · exact .same trivial
  · unfold repairCancel
    split
    · exact ⟨by simp [ReplyFits, queuePayload, HomeRow.bytes, be16], by simp, by simp⟩
    · split
      · exact .same trivial
      · split
        · exact ⟨by simp [ReplyFits, queuePayload, HomeRow.bytes, be16], by simp, by simp⟩
        · exact .same trivial

theorem answers_queueRead (hs : s.mge.queue.length ≤ 8) : Answers s (queueReadBody s) := by
  refine .same ?_
  simp [ReplyFits, List.length_flatMap, queuePayload, HomeRow.bytes, be16]
  omega

theorem answers_commit (args : List Byte) (s : State) : Answers s (commitBody args s) := by
  unfold commitBody
  split
  · exact .same trivial
  next h _ =>
    unfold commitRow
    split
    · exact .same trivial
    next i nx hheld =>
      obtain ⟨e, cur, he, hst⟩ := entry_of_heldSlot hheld
      have hm : e.st.migration = some (cur, nx) := by rw [hst]; rfl
      have hafter := commitSlot_rmt he hm i
      rw [if_pos rfl] at hafter
      exact ⟨fits_entryPayload hafter, by simp, by simp⟩

theorem answers_discard (args : List Byte) (s : State) : Answers s (discardBody args s) := by
  unfold discardBody
  split
  · exact .same trivial
  · unfold discardRow
    split
    · exact .same trivial
    · refine ⟨?_, by simp, by simp⟩
      dsimp only [State.afterRollback]
      split <;> simp [ReplyFits, HomeRow.bytes, be16]

theorem answers_abort (s : State) : Answers s (abortBody s) := by
  unfold abortBody
  split
  · exact .same trivial
  · exact ⟨by simp [ReplyFits, HomeRow.bytes, be16], by simp, by simp⟩

theorem answers_migrationStatus (s : State) : Answers s (migrationStatusBody s) := by
  refine ⟨?_, by simp [migrationStatusBody], by simp [migrationStatusBody]⟩
  cases hc : s.mge.ctx <;> cases hl : s.mge.last <;>
    simp [migrationStatusBody, ReplyFits, contextPayload, outcomePayload, HomeRow.bytes, be16, hc, hl]

theorem answers_scrubStart (args : List Byte) (s : State) : Answers s (scrubStartBody args s) := by
  unfold scrubStartBody
  split
  next zero m _ _ =>
    unfold scrubStart
    split
    · exact .same trivial
    · exact .same trivial
    · refine ⟨by simp [ReplyFits, cursorBytes, be32], ?_, ?_⟩ <;> cases zero <;> dsimp only <;> split <;> simp
  · exact .same trivial

theorem answers_scrubStop (s : State) : Answers s (scrubStopBody s) := by
  unfold scrubStopBody
  split
  · exact .same trivial
  · exact ⟨by simp [ReplyFits, cursorBytes, be32], by simp, by simp⟩

theorem answers_scrubStatus (s : State) : Answers s (scrubStatusBody s) :=
  ⟨by simp [scrubStatusBody, ReplyFits, cursorBytes, be32], by simp [scrubStatusBody], by simp [scrubStatusBody]⟩

theorem answers_gateOpen (s : State) : Answers s (gateOpenBody s) := by
  unfold gateOpenBody
  split
  · exact .same trivial
  · exact ⟨by simp [ReplyFits], by simp, by simp⟩

theorem answers_gateDrain (s : State) : Answers s (gateDrainBody s) := by
  unfold gateDrainBody
  split
  · exact .same trivial
  · exact ⟨by simp [ReplyFits], by simp, by simp⟩

theorem answers_recover (s : State) : Answers s (recoverBody s) := by
  unfold recoverBody
  split
  · exact ⟨by simp [ReplyFits], by simp, by simp⟩
  · exact .same trivial

theorem answers_linkStatus (s : State) : Answers s (linkStatusBody s) :=
  ⟨by simp [linkStatusBody, ReplyFits], by simp [linkStatusBody], by simp [linkStatusBody]⟩

theorem answers_alertIdentify (s : State) : Answers s (alertIdentifyBody s) := by
  refine ⟨by simp [alertIdentifyBody, ReplyFits], ?_, ?_⟩ <;> dsimp only [alertIdentifyBody, State.capture] <;>
    split <;> rfl

theorem answers_itemRead (args : List Byte) (s : State) : Answers s (itemReadBody args s) := by
  unfold itemReadBody
  split
  · exact .same trivial
  · exact .same (by simp [ReplyFits, be32])

theorem writeValue_keeps {it : Item} {v : Word32} {t : State} (h : s.writeValue it v = some t) :
    t.mgp = s.mgp ∧ t.wires = s.wires := by
  cases it <;> simp only [State.writeValue, Option.ite_none_right_eq_some, Option.some.injEq, reduceCtorEq] at h <;>
    obtain ⟨-, rfl⟩ := h
  case field f => simp [State.writeField]
  case opsel => simp [State.writeOpsel]
  all_goals exact ⟨rfl, rfl⟩

theorem answers_writeItem (number : Byte) (it : Item) (v : Word32) (s : State) :
    Answers s (writeItem s number it v) := by
  unfold writeItem
  split
  · exact .same trivial
  · split
    · exact .same trivial
    next hv => exact ⟨by simp [ReplyFits, be32], (writeValue_keeps hv).1, (writeValue_keeps hv).2⟩

theorem answers_itemWrite (args : List Byte) (s : State) : Answers s (itemWriteBody args s) := by
  unfold itemWriteBody
  split
  · exact .same trivial
  · exact answers_writeItem _ _ _ s

theorem answers_counterClear (s : State) : Answers s (counterClearBody s) :=
  ⟨by simp [counterClearBody, ReplyFits, List.length_flatMap, be32], rfl, rfl⟩

theorem answers_resetReport (s : State) : Answers s (resetReportBody s) :=
  .same (by simp [ReplyFits, be16])

/-! ### The actions -/

/-- The body of a command that names an action; DEVICE_RESET has none. -/
def bodyOf : Instr → State → Reply × State
  | .remapLoad a => remapLoadBody a
  | .remapRead a => remapReadBody a
  | .remapFind a => remapFindBody a
  | .spareStatus _ => spareStatusBody
  | .spareRetire a => spareRetireBody a
  | .suspectRead a => suspectReadBody a
  | .suspectClear a => suspectClearBody a
  | .candidateList _ => candidateListBody
  | .lossRead _ => lossReadBody
  | .repairRequest a => repairRequestBody a
  | .repairCancel a => repairCancelBody a
  | .queueRead _ => queueReadBody
  | .commit a => commitBody a
  | .discard a => discardBody a
  | .abort _ => abortBody
  | .migrationStatus _ => migrationStatusBody
  | .scrubStart a => scrubStartBody a
  | .scrubStop _ => scrubStopBody
  | .scrubStatus _ => scrubStatusBody
  | .gateOpen _ => gateOpenBody
  | .gateDrain _ => gateDrainBody
  | .recover _ => recoverBody
  | .linkStatus _ => linkStatusBody
  | .alertIdentify _ => alertIdentifyBody
  | .itemRead a => itemReadBody a
  | .itemWrite a => itemWriteBody a
  | .opselWrite v => fun s => writeItem s 16#8 .opsel v
  | .wrselWrite v => fun s => writeItem s 17#8 .wrsel v
  | .profileFieldWrite f v => fun s => writeItem s (fieldNumber f) (.field f) v
  | .alertEnableWrite v => fun s => writeItem s 18#8 .alertEnable v
  | .dlinkTimeoutWrite v => fun s => writeItem s 19#8 .dlinkTimeout v
  | .counterClear _ => counterClearBody
  | .resetReport _ => resetReportBody
  | _ => fun s => (.badAction, s)

/-- Every action but DEVICE_RESET runs its body. -/
theorem exec_action (h : actionOf c = some (a, args)) (hne : ∀ x, c ≠ .deviceReset x) (s : State) :
    exec c s = .next (s.runAction a args (bodyOf c)) := by
  cases c <;> simp only [actionOf, Option.some.injEq, Prod.mk.injEq, reduceCtorEq] at h <;> obtain ⟨rfl, rfl⟩ := h
  case deviceReset => exact absurd rfl (hne _)
  all_goals rfl

theorem answers_bodyOf (h : ListsBounded s) (c : Instr) : Answers s (bodyOf c s) := by
  obtain ⟨hsuspects, -, -, -, hqueue⟩ := h
  cases c
  case remapLoad => exact answers_remapLoad _ s
  case remapRead => exact answers_remapRead _ s
  case remapFind => exact answers_remapFind _ s
  case spareStatus => exact answers_spareStatus s
  case spareRetire => exact answers_spareRetire _ s
  case suspectRead => exact answers_suspectRead _ s
  case suspectClear => exact answers_suspectClear _ s
  case candidateList => exact answers_candidateList hsuspects
  case lossRead => exact answers_lossRead s
  case repairRequest => exact answers_repairRequest _ s
  case repairCancel => exact answers_repairCancel _ s
  case queueRead => exact answers_queueRead hqueue
  case commit => exact answers_commit _ s
  case discard => exact answers_discard _ s
  case abort => exact answers_abort s
  case migrationStatus => exact answers_migrationStatus s
  case scrubStart => exact answers_scrubStart _ s
  case scrubStop => exact answers_scrubStop s
  case scrubStatus => exact answers_scrubStatus s
  case gateOpen => exact answers_gateOpen s
  case gateDrain => exact answers_gateDrain s
  case recover => exact answers_recover s
  case linkStatus => exact answers_linkStatus s
  case alertIdentify => exact answers_alertIdentify s
  case itemRead => exact answers_itemRead _ s
  case itemWrite => exact answers_itemWrite _ s
  case opselWrite | wrselWrite | profileFieldWrite | alertEnableWrite | dlinkTimeoutWrite =>
    exact answers_writeItem _ _ _ s
  case counterClear => exact answers_counterClear s
  case resetReport => exact answers_resetReport s
  all_goals exact .same trivial

theorem exec_deviceReset_unheard (args : List Byte) (hs : s.hears = false) :
    exec (.deviceReset args) s = .next s.endFrame := by
  change execDeviceReset args s = _
  simp [execDeviceReset, hs]

theorem exec_deviceReset_badLength (hs : s.hears = true) (hl : args.length ≠ Action.deviceReset.argLength) :
    exec (.deviceReset args) s =
      .next (s.answer Action.deviceReset.code (Action.deviceReset.code :: args) .badLength) := by
  change execDeviceReset args s = _
  simp [execDeviceReset, hs, hl]

theorem exec_deviceReset_taken (hs : s.hears = true) :
    exec (.deviceReset []) s = .next ((s.endCommandFrame [Action.deviceReset.code]).deviceResetValues .action
      (startTimer Config.pulseLength)) := by
  change execDeviceReset [] s = _
  simp [execDeviceReset, hs, Action.argLength]

/-! ### Frames that are not received, of the wrong length, or of no action -/

theorem hears_of_not_heard (h : ¬Heard s) : s.hears = false := by
  simp only [Heard, not_and, not_not] at h
  cases hr : s.inReset with
  | true => exact State.hears_inReset hr
  | false => simp [State.hears, h hr]

theorem exec_unheard (hs : s.hears = false) (hc : isFrameEnd c = true) : exec c s = .next s.endFrame := by
  have hact : ∀ a args, actionOf c = some (a, args) → exec c s = .next s.endFrame := fun a args h => by
    by_cases hd : ∃ x, c = .deviceReset x
    · obtain ⟨x, rfl⟩ := hd
      exact exec_deviceReset_unheard x hs
    · rw [exec_action h (fun x hx => hd ⟨x, hx⟩) s, State.runAction_unheard _ hs]
  unfold isFrameEnd at hc
  split at hc
  next n =>
    change execResultFrame n s = _
    simp [execResultFrame, hs]
  next bits =>
    change execMgmtFrameError (.rise bits) s = _
    simp [execMgmtFrameError, State.discardFrame, hs]
  next code args =>
    change execUnknownAction code args s = _
    simp [execUnknownAction, hs]
  · obtain ⟨⟨a, args⟩, h⟩ := Option.isSome_iff_exists.mp hc
    exact hact a args h

theorem exec_badLength (hs : Heard s) (h : actionOf c = some (a, args)) (hl : args.length ≠ a.argLength) :
    exec c s = .next (s.answer a.code (a.code :: args) .badLength) := by
  by_cases hd : ∃ x, c = .deviceReset x
  · obtain ⟨x, rfl⟩ := hd
    obtain ⟨rfl, rfl⟩ : .deviceReset = a ∧ x = args := by simpa [actionOf] using h
    exact exec_deviceReset_badLength (hears_of_heard hs) hl
  · rw [exec_action h (fun x hx => hd ⟨x, hx⟩) s, State.runAction_badLength _ (hears_of_heard hs) hl]

theorem exec_upstreamRequest_unheard (msg : List Byte) (h : s.inReset = true ∨ s.pins.upRstN = false) :
    exec (.upstreamRequest msg) s = .next s := by
  change execUpstreamRequest msg s = _
  rcases h with h | h <;> simp [execUpstreamRequest, h]

/-- Settles O19: a frame that is not received only ends, and the two checks of section 10.2 come before every body. -/
theorem badFramesChangeNothingElse : Obligations.BadFramesChangeNothingElse := by
  unfold Obligations.BadFramesChangeNothingElse
  refine ⟨fun msg s hr => exec_upstreamRequest_unheard msg (.inl hr),
    fun c s hs hc => exec_unheard (hears_of_not_heard hs) hc,
    fun s hs => ⟨fun c a args h hl => exec_badLength hs h hl, fun args => ?_, fun code args hcode => ?_⟩⟩
  · change execUnknownAction none args s = _
    simp [execUnknownAction, hears_of_heard hs]
  · have hno : namesAction code = false := by
      rcases hcode with rfl | h
      · rfl
      · simp only [namesAction, Bool.and_eq_false_iff, decide_eq_false_iff_not]
        omega
    change execUnknownAction (some code) args s = _
    simp [execUnknownAction, hears_of_heard hs, hno]

/-! ### Results -/

/-- A received COMMAND frame writes a result that fits the buffer, unless it is a DEVICE_RESET that is taken. -/
theorem exec_answers (hs : Heard s) (hb : ListsBounded s) (hact : actionOf c = some (a, args))
    (hne : c ≠ .deviceReset []) :
    ∃ (u : State) (r : Reply), exec c s = .next (u.answer a.code (a.code :: args) r) ∧ ReplyFits r ∧ u.mgp = s.mgp ∧
      u.wires = s.wires := by
  by_cases hl : args.length = a.argLength
  · have hx : ∀ x, c ≠ .deviceReset x := by
      rintro x rfl
      obtain ⟨rfl, rfl⟩ : .deviceReset = a ∧ x = args := by simpa [actionOf] using hact
      exact hne (congrArg _ (List.length_eq_zero_iff.mp hl))
    obtain ⟨hfits, hmgp, hwires⟩ := answers_bodyOf hb c
    refine ⟨(bodyOf c s).2, (bodyOf c s).1, ?_, hfits, hmgp, hwires⟩
    rw [exec_action hact hx s, State.runAction_body _ (hears_of_heard hs) hl]
  · exact ⟨s, .badLength, exec_badLength hs hact hl, trivial, rfl, rfl⟩

/-- Settles O20: each body answers with a reply that fits and leaves the port to the answer; DEVICE_RESET resets it. -/
theorem commandFramesWriteResults : Obligations.CommandFramesWriteResults := by
  unfold Obligations.CommandFramesWriteResults
  intro c a args s hs hb hact
  by_cases hreset : c = .deviceReset []
  · subst hreset
    obtain ⟨rfl, rfl⟩ : .deviceReset = a ∧ [] = args := by simpa [actionOf] using hact
    obtain ⟨-, -, -, -, -, -, -, -, -, -, -, hmgp, -, hwires, -⟩ :=
      deviceResetValues_blocks (s.endCommandFrame [Action.deviceReset.code]) .action (startTimer Config.pulseLength)
    exact ⟨_, exec_deviceReset_taken (hears_of_heard hs), hwires, fun h => absurd rfl h, fun _ => hmgp⟩
  · obtain ⟨u, r, he, hfits, hmgp, hwires⟩ := exec_answers hs hb hact hreset
    refine ⟨_, he, ?_, fun _ => ⟨r, ?_, ?_⟩, fun h => absurd h hreset⟩
    · rw [State.answer_wires, hwires]
      rfl
    · rw [State.answer_mgp, hmgp]
    · rintro p rfl
      exact hfits

end Sys2Proof.Proofs
end

section
/-! SUPPORT. RESULT frames, the start of a frame and frame errors (sections 10.1 and 10.3), and the statements O21 and
O22. -/

namespace Sys2Proof.Proofs

open Sys2Proof Sys2Proof.Machine Sys2Proof.Claims

variable {s : State} {bits : List Bool}

/-! ### Bytes as bits -/

theorem length_flatMap_byteBits (l : List Byte) : (l.flatMap byteBits).length = 8 * l.length := by
  induction l with
  | nil => rfl
  | cons b l ih =>
    rw [List.flatMap_cons, List.length_append, ih, List.length_cons]
    simp only [byteBits, List.length_cons, List.length_nil]
    omega

/-- The bits of the first bytes are the first bits. -/
theorem take_flatMap_byteBits (l : List Byte) (n : Nat) :
    (l.flatMap byteBits).take (8 * n) = (l.take n).flatMap byteBits := by
  induction l generalizing n with
  | nil => simp
  | cons b l ih =>
    cases n with
    | zero => rfl
    | succ n =>
      rw [List.flatMap_cons, List.take_succ_cons, List.flatMap_cons, ← ih, List.take_append,
        List.take_of_length_le (by simp [byteBits])]
      simp [byteBits, Nat.mul_add]

theorem flatMap_zeros (n : Nat) : (List.replicate n 0#8).flatMap byteBits = List.replicate (8 * n) false := by
  induction n with
  | zero => rfl
  | succ n ih => rw [List.replicate_succ, List.flatMap_cons, ih, Nat.mul_add, Nat.add_comm, List.replicate_add]; rfl

/-- A list filled up with zeros shows the same first bits, whatever the number of zeros that reaches them. -/
theorem take_padded {l : List Bool} {a b n : Nat} (ha : n ≤ a) (hb : n ≤ b) :
    (l ++ List.replicate a false).take n = (l ++ List.replicate b false).take n := by
  rw [List.take_append, List.take_append, List.take_replicate, List.take_replicate]
  congr 2
  omega

/-- What a RESULT frame of `n` bits shifts out, with enough zeros behind the buffer (R165, R170). -/
theorem sdoBits_eq (b : ResultBuffer) {n m : Nat} (hm : n ≤ 8 * m) :
    sdoBits b n = ((0#8 :: resultBytes b ++ List.replicate m 0#8).flatMap byteBits).take n := by
  rw [sdoBits, sdoBytes, ← take_flatMap_byteBits, List.take_take, Nat.min_eq_left (by omega), List.flatMap_append,
    List.flatMap_append, flatMap_zeros, flatMap_zeros]
  exact take_padded (by omega) hm

theorem sdoBits_bytes (b : ResultBuffer) (n : Nat) :
    sdoBits b (8 * n) = ((0#8 :: resultBytes b ++ List.replicate n 0#8).take n).flatMap byteBits := by
  rw [sdoBits_eq b (Nat.le_refl (8 * n)), take_flatMap_byteBits]

theorem length_sdoBits (b : ResultBuffer) (n : Nat) : (sdoBits b n).length = n := by
  rw [sdoBits_eq b (m := n) (by omega), List.length_take, length_flatMap_byteBits, List.length_append,
    List.length_replicate]
  omega

/-- Zeros go out while the type byte is sampled. -/
theorem sdoBits_first (b : ResultBuffer) {n i : Nat} (hi : i < 8) (hn : i < n) : (sdoBits b n)[i]? = some false := by
  have hfirst : ∀ l : List Bool, (byteBits 0#8 ++ l)[i]? = some false := fun l => by
    rw [List.getElem?_append_left (by simpa [byteBits] using hi)]
    interval_cases i <;> rfl
  rw [sdoBits_eq b (m := n) (by omega), List.getElem?_take_of_lt hn, List.cons_append, List.flatMap_cons]
  exact hfirst _

theorem getElem?_zeroBits {n i : Nat} (hn : i < n) : (zeroBits n)[i]? = some false := by
  simp [zeroBits, hn]

/-! ### RESULT frames -/

theorem afterRead_unread (r : Result) {n : Nat} (hn : 6 ≤ n) : (ResultBuffer.unread r).afterRead n = .read r :=
  if_pos hn

theorem afterRead_kept {b : ResultBuffer} {n : Nat} (h : n < 6 ∨ ∀ r, b ≠ .unread r) : b.afterRead n = b := by
  cases b with
  | unread r => exact if_neg fun hn => h.elim (fun hlt => by omega) fun hne => hne r rfl
  | _ => rfl

/-- Settles O21: the bits are the buffer's behind a zero byte, cut at the frame's length. -/
theorem resultFrameReadsTheBuffer : Obligations.ResultFrameReadsTheBuffer := by
  unfold Obligations.ResultFrameReadsTheBuffer
  intro n s hs hn
  have hne : (n != 0) = true := bne_iff_ne.mpr (by omega)
  refine ⟨_, congrArg Host.Outcome.next (if_pos (by simp [hears_of_heard hs, hne])), rfl, ?_, ?_, afterRead_kept⟩
  · exact congrArg (fun x => { s.wires with mgTx := s.wires.mgTx ++ [x] }) (sdoBits_bytes _ n)
  · intro r hr hsix
    exact (congrArg (ResultBuffer.afterRead · n) hr).trans (afterRead_unread r hsix)

/-! ### Frame errors -/

theorem length_frameBits (b : ResultBuffer) (k : Nat) (bits : List Bool) :
    (frameBits b k bits).length = bits.length := by
  unfold frameBits
  split
  · exact List.length_replicate
  · split
    · exact length_sdoBits b _
    next h _ =>
      simp only [not_or, Nat.not_le] at h
      simp [zeroBits]
      omega

theorem frameBits_first (b : ResultBuffer) (k : Nat) {i : Nat} (hi : i < 8) (hn : i < bits.length) :
    (frameBits b k bits)[i]? = some false := by
  unfold frameBits
  split
  · exact getElem?_zeroBits hn
  · split
    · exact sdoBits_first b hi hn
    · rw [List.getElem?_append_left (by simpa [zeroBits] using hi)]
      exact getElem?_zeroBits hi

/-- A frame error of RESULT type is one with a partial byte. -/
theorem length_of_frameError (h : isFrameError bits = true) (ht : firstByte bits = 165#8) : bits.length % 8 ≠ 0 := by
  simpa [isFrameError, ht, Config.frameCommand, Config.frameResult] using (Bool.and_eq_true_iff.mp h).2

theorem frameBits_result (b : ResultBuffer) (k : Nat) (h : isFrameError bits = true) (hl : 8 ≤ bits.length)
    (ht : firstByte bits = 165#8) :
    frameBits b k bits =
      ((0#8 :: resultBytes b ++ List.replicate bits.length 0#8).flatMap byteBits).take bits.length := by
  have hpartial := length_of_frameError h ht
  have hlong : ¬(bits.length ≤ 8 ∨ firstByte bits = Config.frameCommand) := by
    rw [ht]
    simp only [Config.frameCommand, not_or]
    exact ⟨by omega, by decide⟩
  have hresult : firstByte bits = Config.frameResult := ht
  rw [frameBits, if_neg hlong, if_pos hresult, sdoBits_eq b (m := bits.length) (by omega)]

/-- Settles O22: the bits of an erroneous frame, and the count, the frame state and the record of what was sent. -/
theorem frameErrorsAreCounted : Obligations.FrameErrorsAreCounted := by
  unfold Obligations.FrameErrorsAreCounted
  refine ⟨fun s => ⟨fun hidle => ?_, fun hbusy => ?_⟩, fun bits s hs =>
    ⟨fun hnil => ?_, fun herr => ?_, fun hne hok => ?_⟩⟩
  · change execMgmtFrameError .fall s = _
    rw [execMgmtFrameError, State.beginFrame, hidle]
    rfl
  · change execMgmtFrameError .fall s = _
    cases hf : s.mgp.frame with
    | idle => exact absurd hf hbusy
    | receiving | ignored => rw [execMgmtFrameError, State.beginFrame, hf]
  · change s.discardFrame bits = _
    rw [State.discardFrame, hnil, if_pos (by simp)]
    rfl
  · have hne : bits.isEmpty = false := by
      cases bits with
      | nil => exact absurd herr nofun
      | cons => rfl
    refine ⟨s.frameError bits, frameBits s.mgp.buffer s.wires.mgTx.length bits, ?_, counted_bump _ _, rfl,
      length_frameBits _ _ _, fun i hi hn => frameBits_first _ _ hi hn, fun ht => ?_, frameBits_result _ _ herr⟩
    · change s.discardFrame bits = _
      rw [State.discardFrame, if_neg (by simp [hears_of_heard hs, hne]), if_pos herr]
    · exact if_pos (.inr ht)
  · change s.discardFrame bits = _
    rw [State.discardFrame, if_neg (by simp [hears_of_heard hs, hne]), if_neg (by simp [hok])]

end Sys2Proof.Proofs
end

section
/-! SUPPORT. The tick, the completion of every well-formed command, and runs of any length from a coherent state, with
the statements O2, O4, O15 and O16. -/

namespace Sys2Proof.Proofs

open Sys2Proof Sys2Proof.Machine Sys2Proof.Claims

variable {s : State} {c : Instr}

/-! ### The tick -/

theorem step_of_empty (h : s.pending = []) : step s = .next s.tick := by
  simp only [step, h]

theorem advance_eq (s : State) :
    s.advance =
      { s with
        rst := { s.rst with hold := s.rst.hold.map Interval.tick }
        dp := { s.dp with
                pulse := s.dp.pulse.map Interval.tick
                timer := if s.inReset then s.dp.timer else s.dp.timer.map Interval.tick }
        psc := { s.psc with timer := if s.inReset then s.psc.timer else s.psc.timer.map Interval.tick }
        emn := { s.emn with decay := if s.inReset then s.emn.decay else s.emn.decay.map Interval.tick } } := by
  unfold State.advance
  cases s.inReset <;> rfl

theorem advance_inReset (s : State) : s.advance.inReset = s.inReset := by
  rw [advance_eq]
  rfl

theorem mem_ite_singleton {p : Prop} [Decidable p] {x : Instr} : c ∈ (if p then [x] else []) ↔ c = x ∧ p := by
  split <;> simp_all

theorem mem_dueEvents (s : State) (c : Instr) :
    c ∈ s.dueEvents ↔
      (s.inReset = false ∧
        (c = .responseTimerExpiry ∧ isDue s.dp.timer = true ∨
          c = .scrubIntervalExpiry ∧ isDue s.psc.timer = true ∨
          c = .decayExpiry ∧ isDue s.emn.decay = true ∨
          c = .dpRstPulseEnd ∧ isDue s.dp.pulse = true)) ∨
      (c = .deviceResetEnd false ∧ s.rst.force = .device ∧ isDue s.rst.hold = true ∧ s.pins.rstN = true) := by
  unfold State.dueEvents
  rw [List.mem_append, mem_ite_singleton]
  cases s.inReset
  · simp only [Bool.false_eq_true, if_false, List.mem_append, mem_ite_singleton, Bool.and_eq_true, decide_eq_true_eq,
      true_and, or_assoc, and_assoc]
  · simp [and_assoc]

/-- Settles O2: the timers of the tick, and the events due after it. -/
theorem emptyQueueTicks : Obligations.EmptyQueueTicks := by
  unfold Obligations.EmptyQueueTicks
  intro s hq
  have hpending : s.tick.pending = s.advance.dueEvents := by
    rw [State.tick, hq]
    rfl
  refine ⟨s.tick, step_of_empty hq, ?_, fun c => ?_⟩
  · exact congrArg (fun x : State => { x with pending := s.tick.pending }) (advance_eq s)
  · rw [hpending, mem_dueEvents, advance_inReset, advance_force, show s.advance.pins = s.pins by simp]
    rfl

theorem wellFormed_of_due (h : c ∈ s.dueEvents) : c.wellFormed = true := by
  rcases (mem_dueEvents s c).mp h with ⟨-, ⟨rfl, -⟩ | ⟨rfl, -⟩ | ⟨rfl, -⟩ | ⟨rfl, -⟩⟩ | ⟨rfl, -⟩ <;> rfl

/-! ### Completion -/

theorem completes_startRequest {q : RepairRequest} (h : s.rowMigrating q.home = false) :
    Completes (s.startRequest q) := by
  unfold State.startRequest
  split
  · split <;> exact ⟨_, rfl⟩
  next i hi =>
    obtain ⟨e, he, -⟩ := State.slotOf_some hi
    have hentry : s.entryOf q.home = some e := (entryOf_of_slotOf hi).trans he
    have hsettled : e.st.isMigrating = false := by simpa [State.rowMigrating, hentry] using h
    rw [he]
    cases hst : e.st with
    | active cur => exact ⟨s.startInSlot q i (some cur), by simp only [Option.map_some, hst]⟩
    | moving | held => rw [hst] at hsettled; exact absurd hsettled nofun

theorem completes_migrationStart (hs : RepairCoherent s) : Completes (exec .migrationStart s) := by
  obtain ⟨-, -, -, hqueue⟩ := hs
  change Completes (execMigrationStart s)
  unfold execMigrationStart
  split
  · exact ⟨_, rfl⟩
  next q rest hq =>
    split
    · have hq' : q ∈ s.mge.queue := hq ▸ List.mem_cons_self
      exact completes_startRequest (s := s.putQueue rest) (hqueue q hq')
    · exact ⟨_, rfl⟩

theorem completes_mgmtFrameError {event : FrameEvent} (h : (Instr.mgmtFrameError event).wellFormed = true) :
    Completes (exec (.mgmtFrameError event) s) := by
  change Completes (execMgmtFrameError event s)
  cases event with
  | fall => exact ⟨_, rfl⟩
  | rise bits =>
    have hwf : bits.isEmpty = true ∨ isFrameError bits = true := by simpa [Instr.wellFormed] using h
    unfold execMgmtFrameError State.discardFrame
    dsimp only
    split
    · exact ⟨_, rfl⟩
    next hheard =>
      have herr : isFrameError bits = true := hwf.resolve_left fun he => hheard (by simp [he])
      rw [if_pos herr]
      exact ⟨_, rfl⟩

theorem completes_unknownAction {code : Option Byte} {args : List Byte}
    (h : (Instr.unknownAction code args).wellFormed = true) : Completes (exec (.unknownAction code args) s) := by
  change Completes (execUnknownAction code args s)
  unfold execUnknownAction
  split
  · exact ⟨_, rfl⟩
  · cases code with
    | none => exact ⟨_, rfl⟩
    | some b =>
      have hno : namesAction b = false := by simpa [Instr.wellFormed] using h
      exact ⟨_, if_neg (by simp [hno])⟩

theorem completes_exec (hs : RepairCoherent s) (hc : c.wellFormed = true) : Completes (exec c s) := by
  cases c
  case migrationStart => exact completes_migrationStart hs
  case mgmtFrameError => exact completes_mgmtFrameError hc
  case unknownAction => exact completes_unknownAction hc
  all_goals exact ⟨_, rfl⟩

/-- Settles O15: only a start, a frame error and an unknown action can stop, each where its row does not describe it. -/
theorem wellFormedCommandsComplete : Obligations.WellFormedCommandsComplete :=
  fun _ _ => completes_exec

/-! ### The power-on state -/

theorem listsBounded_reset : ListsBounded State.reset :=
  ⟨Nat.zero_le _, List.nodup_nil, nofun, Nat.zero_le _, Nat.zero_le _⟩

theorem copyInRange_reset : CopyInRange State.reset := ⟨profilesInRange_of_default rfl, nofun⟩

/-- Settles O4: nothing is listed, in migration, in flight or captured, and a power-on reset is in force. -/
theorem coherentAtReset : Obligations.CoherentAtReset := by
  refine ⟨⟨listsBounded_reset, repairCoherent_powerOnValues State.reset, sparesMatch_powerOnValues State.reset,
    copyInRange_reset, ?_, portCoherent_powerOn rfl, ?_, hostCoherent_powerOn rfl rfl, nofun, ?_⟩, nofun⟩
  · exact ⟨nofun, rfl, nofun, nofun⟩
  · exact ⟨fun _ => rfl, Nat.zero_le _⟩
  · exact ⟨nofun, fun _ => rfl, fun _ => rfl, nofun, fun _ => ⟨rfl, rfl, rfl, rfl, rfl, rfl, rfl, rfl, rfl, rfl⟩⟩

/-! ### Runs -/

theorem coherent_of_step {t : State} (hs : Coherent s) (hstep : step s = .next t) : Coherent t := by
  obtain ⟨hlists, hrepair, hspares, hcopy, hscrub, hport, hstarve, hhost, hcapture, hreset⟩ := hs
  exact ⟨listsStayBounded s t hlists hstep, repairStaysCoherent s t hrepair hstep, sparesStayMatched s t hspares hstep,
    copyStaysInRange s t hcopy hstep, scrubberStaysWithLink s t hscrub hstep, portStaysCoherent s t hport hstep,
    starvationStaysCounted s t hstarve hstep, hostStaysCoherent s t hhost hstep, captureStaysPending s t hcapture hstep,
    resetsStayCoherent s t hreset hstep⟩

/-- A step from a state whose waiting commands are well formed completes and leaves such a queue. -/
theorem step_completes (hs : RepairCoherent s) (hq : QueueWellFormed s) :
    ∃ t, step s = .next t ∧ QueueWellFormed t := by
  cases hpending : s.pending with
  | nil =>
    refine ⟨s.tick, step_of_empty hpending, fun c hc => ?_⟩
    rw [State.tick, hpending] at hc
    exact wellFormed_of_due hc
  | cons c rest =>
    have hc : c ∈ s.pending := hpending ▸ List.mem_cons_self
    have hrest : ∀ x ∈ rest, x ∈ s.pending := fun x hx => hpending ▸ List.mem_cons_of_mem c hx
    obtain ⟨t, ht⟩ := completes_exec (s := { s with pending := rest }) hs (hq c hc)
    refine ⟨t, (frontCommandIsExecuted s c rest hpending).trans ht, fun x hx => ?_⟩
    rw [exec_pending ht] at hx
    exact hq x (hrest x hx)

theorem run_succ {M : Host.Core} {n : Nat} {x y : M.State} (h : M.step x = .next y) : M.run (n + 1) x = M.run n y := by
  rw [Host.Core.run, h]

/-- Settles O16, by induction on the length of the run. -/
theorem coherentRunsComplete : Obligations.CoherentRunsComplete := by
  unfold Obligations.CoherentRunsComplete
  intro n
  induction n with
  | zero => exact fun s hs hq => ⟨s, rfl, hs, hq⟩
  | succ n ih =>
    intro s hs hq
    obtain ⟨u, hstep, hq'⟩ := step_completes hs.2.1 hq
    obtain ⟨t, hrun, ht⟩ := ih u (coherent_of_step hs hstep) hq'
    exact ⟨t, (run_succ (M := core) hstep).trans hrun, ht⟩

end Sys2Proof.Proofs
end

section
/-! SUPPORT. The grants to the migration engine and to the scrubber as next states (R76, R81, R82, R101, R105), and the
statements O30, O31, O32 and O33. -/

namespace Sys2Proof.Proofs

open Sys2Proof Sys2Proof.Machine Sys2Proof.Claims

variable {s t u : State} {c : MigContext} {l : ScrubLine}

/-! ### The winner among the internal requesters (Table 8-4) -/

theorem any_eq_false_of_owner {o : Owner} {l : List FifoEntry} (h : ∀ e ∈ l, e.owner ≠ o) {p : FifoEntry → Bool}
    (hp : ∀ e, p e = decide (e.owner = o)) : l.any p = false := by
  simpa [hp] using h

theorem migPresents_of_wait (hc : s.mge.ctx = some c) (hp : c.phase = .wait) (hf : ∀ e ∈ s.dp.fifo, e.owner ≠ .copy) :
    s.migPresents = true :=
  migPresents_iff.mpr ⟨⟨c, hc, hp⟩, any_eq_false_of_owner hf isCopy_eq⟩

theorem scrubPresents_of_awaits (hl : s.psc.line = some l) (hp : l.phase = .awaitRead ∨ l.phase = .awaitWriteback)
    (hf : ∀ e ∈ s.dp.fifo, e.owner ≠ .scrub) : s.scrubPresents = true :=
  scrubPresents_iff.mpr ⟨⟨l, hl, hp⟩, any_eq_false_of_owner hf isScrub_eq⟩

/-- The host does not win where an internal requester presents at its turn. -/
theorem winner_of_internalTurn (ht : InternalTurn s) (hi : s.internalPresents = true) :
    s.winner = if s.migPresents then some .migration else if s.scrubPresents then some .scrub else none := by
  obtain ⟨-, -, hlimit⟩ := ht
  refine if_neg ?_
  rcases hlimit with hf | hge
  · simp [State.hostPresents, hf]
  · simp [hi, hge]

theorem winner_migration (ht : InternalTurn s) (hm : s.migPresents = true) : s.winner = some .migration := by
  rw [winner_of_internalTurn ht (by simp [State.internalPresents, hm]), if_pos hm]

theorem winner_scrub (ht : InternalTurn s) (hm : s.migPresents = false) (hp : s.scrubPresents = true) :
    s.winner = some .scrub := by
  rw [winner_of_internalTurn ht (by simp [State.internalPresents, hp]), if_neg (by simp [hm]), if_pos hp]

theorem exec_migrationGrant (ready : Bool) (ht : InternalTurn s) (hc : s.mge.ctx = some c) (hp : c.phase = .wait)
    (hf : ∀ e ∈ s.dp.fifo, e.owner ≠ .copy) :
    exec (.arbiterGrant ready) s =
      .next ((s.migrationGrant.putStarvation 0).setPins { s.pins with dpReqReady := ready }) :=
  exec_arbiterGrant_of_winner ht.1 ht.2.1 (winner_migration ht (migPresents_of_wait hc hp hf))

theorem exec_scrubGrant (ready : Bool) (ht : InternalTurn s) (hm : s.migPresents = false) (hl : s.psc.line = some l)
    (hp : l.phase = .awaitRead ∨ l.phase = .awaitWriteback) (hf : ∀ e ∈ s.dp.fifo, e.owner ≠ .scrub) :
    exec (.arbiterGrant ready) s =
      .next ((s.scrubGrant.putStarvation 0).setPins { s.pins with dpReqReady := ready }) :=
  exec_arbiterGrant_of_winner ht.1 ht.2.1 (winner_scrub ht hm (scrubPresents_of_awaits hl hp hf))

/-! ### COPY requests (R76, R82) -/

theorem migrationGrant_read (hc : s.mge.ctx = some c) (ha : c.awaited = .copyRead) :
    s.migrationGrant = s.copyReadIssue c := by
  simp only [State.migrationGrant, hc, ha]

theorem migrationGrant_write (hc : s.mge.ctx = some c) (ha : c.awaited = .copyWrite) :
    s.migrationGrant = if c.overtaken then s.retryDecision c.withdrawn else s.copyWriteIssue c := by
  simp only [State.migrationGrant, hc, ha]

theorem ofNat_of_val {n m : Nat} [NeZero n] {k : Fin n} (h : m = k.val) : Fin.ofNat n m = k :=
  Fin.ext (by rw [h]; exact Nat.mod_eq_of_lt k.isLt)

theorem be64_fullMask : be64 fullMask = List.replicate 8 255#8 := by decide

/-- The COPY_WRITE of a poisoned line carries the poison flag (Table 11-3). -/
theorem writeRequestBytes_full (loc : Location) (k : Fin 32) (data : List Byte) (poison : Bool) :
    writeRequestBytes loc k fullMask data poison =
      byte (128 + (if poison then 64 else 0) + loc.bank.val) ::
        be16 loc.row.val ++ byte k.val :: List.replicate 8 255#8 ++ data := by
  rw [writeRequestBytes, be64_fullMask, Bool.cond_eq_ite]

theorem written_eq {k : Fin 32} (hk : c.cursor.val = k.val) :
    c.written =
      { c with
        cursor := ⟨k.val + 1, by omega⟩, lineRetries := 0, buffer := none
        phase := if k.val < 31 then .wait else .writing
        awaited := if k.val < 31 then .copyRead else .copyWrite } := by
  have hcursor : Fin.ofNat 33 (k.val + 1) = ⟨k.val + 1, by omega⟩ := ofNat_of_val rfl
  rw [MigContext.written, hk, hcursor]

/-- Settles O30: the migration engine wins its turn, and the entry and the request are those of Table 8-1. -/
theorem copyRequestsAreIssued : Obligations.CopyRequestsAreIssued := by
  unfold Obligations.CopyRequestsAreIssued
  refine ⟨fun s ready c k ht hc hp ha hk hf => ?_, fun s ready c k buf ht hc hp ha hk ho hb hf => ?_⟩
  · rw [exec_migrationGrant ready ht hc hp hf, migrationGrant_read hc ha, State.copyReadIssue, issue_eq,
      ofNat_of_val hk]
    rfl
  · rw [exec_migrationGrant ready ht hc hp hf, migrationGrant_write hc ha, if_neg (by simp [ho]), State.copyWriteIssue,
      issue_eq, ofNat_of_val hk, written_eq hk, hb, Option.getD_some, writeRequestBytes_full]
    rfl

/-! ### An overtaken COPY_WRITE (R81, R78) -/

theorem map_orphanCopies_self {l : List FifoEntry} (h : ∀ e ∈ l, e.owner ≠ .copy) :
    (l.map fun e => if e.owner = .copy then { e with orphan := true } else e) = l :=
  (List.map_congr_left fun e he => if_neg (h e he)).trans (List.map_id' l)

/-- An abort with no COPY entry in the issue FIFO leaves the FIFO alone. -/
theorem abortMigration_dp_of_no_copy {cur : Option (Fin 16)} (hc : s.mge.ctx = some c)
    (hi : s.rmt[c.slot] = some ⟨c.home, .moving cur c.target⟩) (hf : ∀ e ∈ s.dp.fifo, e.owner ≠ .copy) (o : MigOutcome)
    (alert : Bool) :
    (s.abortMigration o alert).dp = { s.dp with starvation := if s.scrubPresents then s.dp.starvation else 0 } := by
  rw [abortMigration_eq hc hi]
  dsimp only
  rw [map_orphanCopies_self hf]

/-- Settles O31: the withdrawn context takes the retry decision of R78. -/
theorem overtakenCopyWriteIsWithdrawn : Obligations.OvertakenCopyWriteIsWithdrawn := by
  unfold Obligations.OvertakenCopyWriteIsWithdrawn
  intro s ready c p cur ht hc hp ha ho hf hi hpoisoned
  have hw : c.withdrawn = { c with poisoned := p } := by rw [MigContext.withdrawn, ← hpoisoned]
  have hexec := exec_migrationGrant ready ht hc hp hf
  rw [migrationGrant_write hc ha, if_pos ho, hw] at hexec
  refine ⟨_, hexec, fun hlt => ?_, fun hle => ?_⟩
  · rw [retryDecision_retries (c := { c with poisoned := p }) hlt]
    exact ⟨counted_bump s .copyRetries, rfl⟩
  · have hdecision : s.retryDecision { c with poisoned := p } =
        (s.putCtx (some { c with poisoned := p })).abortMigration .abortedContended true := if_pos hle
    have hdp := abortMigration_dp_of_no_copy (s := s.putCtx (some { c with poisoned := p })) rfl hi hf .abortedContended
      true
    have hall := abortMigration_eq (s := s.putCtx (some { c with poisoned := p })) rfl hi .abortedContended true
    rw [hdecision]
    refine ⟨?_, ?_, ?_⟩
    · rw [hall]
      exact counted_bump s .migrationsAborted
    · rw [hall]
      exact ⟨rfl, rfl, rfl, rfl⟩
    · rw [State.putStarvation, hdp, hall]
      simp [State.setPins, State.setDp]

end Sys2Proof.Proofs
end

section
/-! SUPPORT. The cursor of the patrol scrubber, the grants to it, the answers to its requests, its start and its stop
(R97, R101, R103 to R107, R109, R110), and the statements O32, O33, O38 and O53. -/

namespace Sys2Proof.Proofs

open Sys2Proof Sys2Proof.Machine Sys2Proof.Claims

variable {s t u v w : State} {l : ScrubLine} {c : Fin 33546240}

/-! ### The cursor (R97, R107) -/

/-- A move of the cursor reaches the scrubber, the alerts and the counters alone. -/
theorem moveCursor_eq (s : State) (n : Nat) :
    s.moveCursor n =
      { s with psc := (s.moveCursor n).psc, alc := (s.moveCursor n).alc, counters := (s.moveCursor n).counters } := by
  unfold State.moveCursor
  split <;> rfl

theorem moveCursor_counter (s : State) (n : Nat) {k : Counter} (hk : k ≠ .scrubPasses) :
    (s.moveCursor n).counter k = s.counter k := by
  unfold State.moveCursor
  split
  · rfl
  · exact (State.counter_bump ..).trans (if_neg hk)

theorem moveCursor_of_lt {n : Nat} (h : n < 33546240) : s.moveCursor n = s.setPsc { s.psc with cursor := ⟨n, h⟩ } :=
  dif_pos h

theorem moveCursor_of_ge {n : Nat} (h : 33546240 ≤ n) : s.moveCursor n = s.passWrap :=
  dif_neg (Nat.not_lt.mpr h)

theorem passWrap_single (h : s.psc.state = .running .single) :
    s.passWrap.psc = { s.psc with state := .idle, timer := none, cursor := 0 } := by
  simp [State.passWrap, h]

theorem passWrap_goesOn (h : s.psc.state ≠ .running .single) : s.passWrap.psc = { s.psc with cursor := 0 } := by
  unfold State.passWrap
  split
  next hs => exact absurd hs h
  · rfl

theorem passWrap_passes (s : State) : s.passWrap.counter .scrubPasses = satInc (s.counter .scrubPasses) :=
  (State.counter_bump ..).trans (if_pos rfl)

/-- The end of a line with a move of the cursor to a higher line index, or past the last one. -/
theorem cursorMoved_moveCursor {n : Nat} (hn : s.psc.cursor.val < n) (hmax : n ≤ 33546240) :
    CursorMoved s ((s.putLine none).moveCursor n) (Fin.ofNat 33546240 n) := by
  rcases Nat.lt_or_ge n 33546240 with hlt | hge
  · have hto : Fin.ofNat 33546240 n = ⟨n, hlt⟩ := ofNat_of_val rfl
    rw [moveCursor_of_lt hlt, hto]
    exact ⟨fun _ => ⟨rfl, rfl, rfl⟩, fun hle => absurd hn (Nat.not_lt.mpr hle)⟩
  · have hto : Fin.ofNat 33546240 n = 0 := by
      rw [Nat.le_antisymm hmax hge]
      rfl
    rw [moveCursor_of_ge hge, hto]
    exact ⟨fun h => absurd h (Nat.not_lt.mpr (Nat.zero_le _)), fun _ => ⟨rfl, passWrap_passes _,
      fun hs => passWrap_single (s := s.putLine none) hs, fun hs => passWrap_goesOn (s := s.putLine none) hs⟩⟩

/-- CURSOR MOVED reads the scrubber, the alerts and the count of passes alone. -/
theorem cursorMoved_congr (h : CursorMoved s t c) (hp : v.psc = s.psc) (ha : v.alc = s.alc)
    (hk : v.counter .scrubPasses = s.counter .scrubPasses) (hp' : w.psc = t.psc) (ha' : w.alc = t.alc)
    (hk' : w.counter .scrubPasses = t.counter .scrubPasses) : CursorMoved v w c := by
  simpa only [CursorMoved, hp, ha, hk, hp', ha', hk'] using h

theorem cursorMoved_endLine (s : State) : CursorMoved s s.endLine (nextLine s.psc.cursor) :=
  cursorMoved_moveCursor (Nat.lt_succ_self _) s.psc.cursor.isLt

theorem cursorMoved_rowSkip (s : State) : CursorMoved s (s.putLine none).rowSkip (nextRow s.psc.cursor) := by
  have hlt := s.psc.cursor.isLt
  have hmove := cursorMoved_moveCursor (s := s.bump .skippedRows) (n := (s.psc.cursor.val / 32 + 1) * 32)
    (by change s.psc.cursor.val < _; omega) (by omega)
  exact cursorMoved_congr hmove rfl rfl (((counted_bump s .skippedRows).2 .scrubPasses (by decide)).symm) rfl rfl rfl

/-! ### Grants to the scrubber (R101, R105) -/

theorem scrubGrant_read (hl : s.psc.line = some l) (hp : l.phase = .awaitRead) : s.scrubGrant = s.scrubReadGrant l := by
  simp only [State.scrubGrant, hl, hp]

theorem scrubGrant_writeback (hl : s.psc.line = some l) (hp : l.phase = .awaitWriteback) :
    s.scrubGrant = s.scrubWritebackGrant l := by
  simp only [State.scrubGrant, hl, hp]

theorem translationKept_iff {loc : Location} {act : Bool} (hr : l.recorded = some ⟨loc, act⟩) :
    s.translationKept l = true ↔
      s.rowMigrating (rowOfLine l.line) = false ∧ s.currentLoc (rowOfLine l.line) = loc ∧
        (s.entryOf (rowOfLine l.line)).isSome = act := by
  simp only [State.translationKept, hr, Bool.and_eq_true, Bool.not_eq_true', beq_iff_eq, Option.some.injEq,
    Recorded.mk.injEq, eq_comm (a := loc), eq_comm (a := act)]

/-- Settles O32: the SCRUB_READ goes out at the row's current location, or the row is skipped. -/
theorem scrubReadIssuedOrSkipped : Obligations.ScrubReadIssuedOrSkipped := by
  unfold Obligations.ScrubReadIssuedOrSkipped
  refine ⟨fun s ready l h k ht hm hl hp hf hh hk hmig => ?_, fun s ready l ht hm hl hp hf hmig => ?_⟩
  · subst hh hk
    rw [exec_scrubGrant ready ht hm hl (.inl hp) hf, scrubGrant_read hl hp, State.scrubReadGrant,
      if_neg (by simp [hmig])]
    dsimp only
    rw [issue_eq]
    rfl
  · have hgrant : s.scrubGrant = (s.putLine none).rowSkip := (scrubGrant_read hl hp).trans (if_pos hmig)
    refine ⟨_, exec_scrubGrant ready ht hm hl (.inl hp) hf, ?_⟩
    rw [hgrant]
    refine ⟨cursorMoved_congr (cursorMoved_rowSkip s) rfl rfl rfl rfl rfl rfl, ?_, fun k hk hk' => ?_, ?_⟩
    · exact (moveCursor_counter _ _ (by decide)).trans (counted_bump (s.putLine none) .skippedRows).1
    · exact (moveCursor_counter _ _ hk').trans ((counted_bump (s.putLine none) .skippedRows).2 k hk)
    · rw [State.rowSkip, moveCursor_eq]
      rfl

/-- Settles O33: the write-back goes out where the translation is the recorded one, else it is dropped and counted. -/
theorem scrubWritebackIssuedOrDropped : Obligations.ScrubWritebackIssuedOrDropped := by
  unfold Obligations.ScrubWritebackIssuedOrDropped
  intro s ready l h k loc act data ht hm hl hp hr hb hf hh hk
  subst hh hk
  have hexec := exec_scrubGrant ready ht hm hl (.inr hp) hf
  rw [scrubGrant_writeback hl hp] at hexec
  refine ⟨fun ⟨hi, hmig, hloc, hact⟩ => ?_, fun hdrop => ?_⟩
  · have hkept := (translationKept_iff hr).mpr ⟨hmig, hloc, hact⟩
    rw [hexec, State.scrubWritebackGrant, if_neg (by simp [hi, hkept])]
    dsimp only
    rw [issue_eq, hb, hloc]
    rfl
  · have hdropped : (l.intervened || !s.translationKept l) = true := by
      rw [Bool.or_eq_true, Bool.not_eq_true', ← Bool.not_eq_true, translationKept_iff hr]
      rcases hdrop with hi | hmig | hloc | hact
      · exact .inl hi
      · exact .inr fun h => absurd (hmig.symm.trans h.1) nofun
      · exact .inr fun h => hloc h.2.1
      · exact .inr fun h => hact h.2.2
    have hgrant : s.scrubWritebackGrant l = (s.bump .wbDropped).endLine := if_pos hdropped
    refine ⟨_, hexec, ?_⟩
    rw [hgrant]
    refine ⟨cursorMoved_congr (cursorMoved_endLine (s.bump .wbDropped)) rfl rfl
      ((counted_bump s .wbDropped).2 .scrubPasses (by decide)).symm rfl rfl rfl, ?_, fun k hk hk' => ?_, ?_⟩
    · exact (moveCursor_counter _ _ (by decide)).trans (counted_bump s .wbDropped).1
    · exact (moveCursor_counter _ _ hk').trans ((counted_bump s .wbDropped).2 k hk)
    · rw [State.endLine, moveCursor_eq]
      rfl

/-! ### Answers to scrub requests (R103, R104, R106) -/

theorem exec_downstreamAnswer {msg : List Byte} {e : FifoEntry} {rest : List FifoEntry} {st : AnswerStatus}
    {data : List Byte} (hl : s.dp.link = .up) (hf : s.dp.fifo = e :: rest)
    (hm : fitAnswer e.kind msg = some (st, data)) :
    exec (.downstreamAnswer msg) s = .next ((s.popFifo rest).deliver e st data) := by
  change execDownstreamAnswer msg s = _
  simp only [execDownstreamAnswer, if_pos hl, State.takeAnswer, hf, hm]

/-- The answer to the request that a line is in ends the line, or holds a corrected line for its write-back. -/
theorem scrubAnswer_eq {e : FifoEntry} {st : AnswerStatus} {data : List Byte}
    (hu : u = if e.kind = .read then s.attributeScrub e.home e.line st else s) (hl : u.psc.line = some l)
    (hr : e.kind = .read → l.phase = .reading) (hw : e.kind = .write → l.phase = .writingBack) :
    s.scrubAnswer e st data =
      if e.kind = .read ∧ st = .ce ∧ u.operating.scrubWriteback = true then
        u.putLine (some { l with phase := .awaitWriteback, buffer := some data })
      else u.endLine := by
  simp only [State.scrubAnswer, ← hu, hl]
  cases hk : e.kind with
  | read =>
    rw [hr hk]
    cases st with
    | ok | ue => rfl
    | ce => cases hwb : u.operating.scrubWriteback <;> simp [State.scrubReadAnswer, hwb]
  | write =>
    rw [hw hk]
    rfl

/-- Settles O38: the attribution leaves the line and the profile alone, and the line then ends or waits. -/
theorem scrubAnswerEndsOrHoldsTheLine : Obligations.ScrubAnswerEndsOrHoldsTheLine := by
  unfold Obligations.ScrubAnswerEndsOrHoldsTheLine
  intro s msg e rest l st data u hl hf ho horphan hm hline hr hw hu
  have hpop : s.popFifo rest = { s with dp := { s.dp with fifo := rest, timer := timerAfterAnswer s rest } } :=
    popFifo_eq s rest
  have hpsc : u.psc = s.psc := by rw [hu]; split <;> simp
  have hprf : u.operating = s.operating := by rw [hu]; split <;> simp [State.operating]
  have hdeliver : (s.popFifo rest).deliver e st data = (s.popFifo rest).scrubAnswer e st data := by
    simp only [State.deliver, ho, horphan]
  refine ⟨_, exec_downstreamAnswer hl hf hm, ?_⟩
  rw [hdeliver, scrubAnswer_eq (u := u) (by rw [hpop]; exact hu) (hpsc ▸ hline) hr hw, hprf]
  refine ⟨fun h => ?_, fun h => ?_⟩
  · rw [if_pos h, State.putLine, hpsc]
    rfl
  · rw [if_neg h]
    refine ⟨hpsc ▸ cursorMoved_endLine u, fun k hk => moveCursor_counter _ _ hk, ?_⟩
    rw [State.endLine, moveCursor_eq]
    rfl

/-! ### Start and stop (R109, R110) -/

theorem exec_scrubStart {f m : Byte} {r : Reply} (hs : Heard s) (hb : scrubStartBody [f, m] s = (r, t)) :
    exec (.scrubStart [f, m]) s = .next (t.answer 17#8 [17#8, f, m] r) :=
  congrArg Host.Outcome.next (runAction_eq (a := .scrubStart) hs rfl hb)

theorem exec_scrubStop {r : Reply} (hs : Heard s) (hb : scrubStopBody s = (r, t)) :
    exec (.scrubStop []) s = .next (t.answer 18#8 [18#8] r) :=
  congrArg Host.Outcome.next (runAction_eq (a := .scrubStop) hs rfl hb)

theorem fromArg_eq_none {n : Nat} (h : 1 < n) : fromArg n = none := by
  unfold fromArg
  split
  · omega
  · omega
  · rfl

theorem scrubModeArg_eq_none {n : Nat} (h : 1 < n) : scrubModeArg n = none := by
  unfold scrubModeArg
  split
  · omega
  · omega
  · rfl

theorem fromArg_of_le {f : Byte} (h : f.toNat ≤ 1) : fromArg f.toNat = some (decide (f = 1#8)) := by
  rcases Nat.le_one_iff_eq_zero_or_eq_one.mp h with h0 | h1
  · obtain rfl : f = 0#8 := BitVec.eq_of_toNat_eq h0
    rfl
  · obtain rfl : f = 1#8 := BitVec.eq_of_toNat_eq h1
    rfl

theorem scrubModeArg_of_le {n : Nat} (h : n ≤ 1) : ∃ m, scrubModeArg n = some m := by
  rcases Nat.le_one_iff_eq_zero_or_eq_one.mp h with rfl | rfl
  · exact ⟨_, rfl⟩
  · exact ⟨_, rfl⟩

theorem scrubModeArg_code (m : ScrubMode) : scrubModeArg m.code.toNat = some m := by
  cases m <;> rfl

theorem scrubStartBody_badArg {f m : Byte} (h : 1 < f.toNat ∨ 1 < m.toNat) :
    scrubStartBody [f, m] s = (.badArg, s) := by
  have hargs : fromArg (arg [f, m] 0) = none ∨ scrubModeArg (arg [f, m] 1) = none :=
    h.imp fromArg_eq_none scrubModeArg_eq_none
  unfold scrubStartBody
  split
  next hf hm => exact absurd hargs (by simp [hf, hm])
  · rfl

/-- The body of SCRUB_START with arguments that name a from and a mode. -/
theorem scrubStartBody_eq {f b : Byte} {m : ScrubMode} (hf : f.toNat ≤ 1) (hm : scrubModeArg b.toNat = some m) :
    scrubStartBody [f, b] s = scrubStart s (decide (f = 1#8)) m := by
  have hfrom : fromArg (arg [f, b] 0) = some (decide (f = 1#8)) := fromArg_of_le hf
  have hmode : scrubModeArg (arg [f, b] 1) = some m := hm
  simp only [scrubStartBody, hfrom, hmode]

theorem scrubStart_refused {zero : Bool} {m : ScrubMode} (h : s.psc.state ≠ .idle) :
    scrubStart s zero m = (.refused .state, s) := by
  unfold scrubStart
  split
  · rfl
  · rfl
  next hi => exact absurd hi h

/-- SCRUB_START on an IDLE scrubber: the cursor it starts from, then RUNNING or PAUSED by the link. -/
theorem scrubStart_idle {zero : Bool} {m : ScrubMode} {cur : Fin 33546240} (h : s.psc.state = .idle)
    (hc : cur = if zero then 0 else s.psc.cursor) :
    scrubStart s zero m =
      if s.dp.link = .up then
        (.done ([1#8, m.code] ++ be32 (BitVec.ofNat 32 cur.val)),
          { s with psc := { s.psc with state := .running m, cursor := cur
                                       timer := some ⟨s.operating.scrubInterval, 0⟩ } })
      else
        (.done ([2#8, m.code] ++ be32 (BitVec.ofNat 32 cur.val)),
          { s with psc := { s.psc with state := .paused m, cursor := cur } }) := by
  subst hc
  by_cases hl : s.dp.link = .up
  · simp only [scrubStart, h, if_pos hl]
    cases zero <;> rfl
  · simp only [scrubStart, h, if_neg hl]
    cases zero <;> rfl

theorem scrubStopBody_idle (h : s.psc.state = .idle) : scrubStopBody s = (.refused .state, s) := by
  simp only [scrubStopBody, h]

/-- SCRUB_STOP takes the count with it where the migration engine does not present (R110, R143). -/
theorem scrubStop_eq (s : State) :
    ((s.setPsc { s.psc with state := .idle, timer := none, line := none }).putFifo
        (orphanScrubs s.dp.fifo)).settleStarvation =
      { s with
        psc := { s.psc with state := .idle, timer := none, line := none }
        dp := { s.dp with
                fifo := s.dp.fifo.map fun e => if e.owner = .scrub then { e with orphan := true } else e
                starvation := if s.migPresents then s.dp.starvation else 0 } } := by
  have hfifo : orphanScrubs s.dp.fifo =
      s.dp.fifo.map fun e => if e.owner = .scrub then { e with orphan := true } else e := by
    simp [orphanScrubs, isScrub_eq]
  have hcopies : (orphanScrubs s.dp.fifo).any FifoEntry.isCopy = s.dp.fifo.any FifoEntry.isCopy :=
    (any_owner_map (ite_orphan_owner FifoEntry.isScrub) s.dp.fifo).1
  have hpresents : ((s.setPsc { s.psc with state := .idle, timer := none, line := none }).putFifo
      (orphanScrubs s.dp.fifo)).internalPresents = s.migPresents := by
    rw [State.internalPresents, scrubPresents_of_no_line rfl, Bool.or_false]
    exact congrArg (fun x => s.mge.ctx.any _ && !x) hcopies
  rw [State.settleStarvation, hpresents, ← hfifo]
  cases s.migPresents <;> rfl

theorem scrubStopBody_stops (h : s.psc.state ≠ .idle) :
    scrubStopBody s =
      (.done (s.psc.state.code :: be32 (BitVec.ofNat 32 s.psc.cursor.val) ++
          [match s.psc.line with | some l => l.phase.code | none => 255#8]),
        { s with
          psc := { s.psc with state := .idle, timer := none, line := none }
          dp := { s.dp with
                  fifo := s.dp.fifo.map fun e => if e.owner = .scrub then { e with orphan := true } else e
                  starvation := if s.migPresents then s.dp.starvation else 0 } }) := by
  rw [← scrubStop_eq]
  unfold scrubStopBody
  split
  next hi => exact absurd hi h
  · cases s.psc.line <;> rfl

/-- Settles O53, from the two bodies. -/
theorem scrubStartsAndStops : Obligations.ScrubStartsAndStops := by
  unfold Obligations.ScrubStartsAndStops
  refine fun s hs => ⟨fun f m h => exec_scrubStart hs (scrubStartBody_badArg h), fun f m hf hm hst => ?_,
    fun f m cur hf hst hc => ?_, fun h => exec_scrubStop hs (scrubStopBody_idle h),
    fun h => exec_scrubStop hs (scrubStopBody_stops h)⟩
  · obtain ⟨mode, hmode⟩ := scrubModeArg_of_le hm
    exact exec_scrubStart hs ((scrubStartBody_eq hf hmode).trans (scrubStart_refused hst))
  · have hbody := (scrubStartBody_eq hf (scrubModeArg_code m)).trans
      (scrubStart_idle hst (cur := cur) (by simpa using hc))
    exact ⟨fun hup => exec_scrubStart hs (hbody.trans (if_pos hup)),
      fun hdown => exec_scrubStart hs (hbody.trans (if_neg hdown))⟩

end Sys2Proof.Proofs
end

section
/-! SUPPORT. The row tests of a scrub interval expiry (R98, R99), and the statement O52. -/

namespace Sys2Proof.Proofs

open Sys2Proof Sys2Proof.Machine Sys2Proof.Claims

variable {s u : State} {n : Nat} {m : ScrubMode} {c : Fin 33546240}

/-! ### Rows in cursor order -/

/-- The cursor after `n` skips: where it was, or at the first line of the `n`th row on. -/
def skipCursor (c : Fin 33546240) (n : Nat) : Fin 33546240 := if n = 0 then c else rowStart c n

theorem rowStart_val (c : Fin 33546240) (n : Nat) : (rowStart c n).val = (c.val / 32 + n) * 32 % 33546240 := rfl

theorem rowStart_row (c : Fin 33546240) (n : Nat) : (rowStart c n).val / 32 = (c.val / 32 + n) % 1048320 := by
  rw [rowStart_val]
  omega

theorem skipCursor_row (c : Fin 33546240) (n : Nat) : (skipCursor c n).val / 32 = (c.val / 32 + n) % 1048320 := by
  have hc := c.isLt
  unfold skipCursor
  split
  next h =>
    subst h
    omega
  · exact rowStart_row c n

theorem skipCursor_succ (c : Fin 33546240) (n : Nat) : skipCursor c (n + 1) = rowStart c (n + 1) :=
  if_neg (Nat.succ_ne_zero n)

theorem rowOfLine_inj (x y : Fin 33546240) : rowOfLine x = rowOfLine y ↔ x.val / 32 = y.val / 32 := by
  simp only [rowOfLine, HomeRow.mk.injEq, Fin.ext_iff, Fin.val_ofNat]
  omega

theorem rowOfLine_skipCursor (c : Fin 33546240) (n : Nat) : rowOfLine (skipCursor c n) = rowOfLine (rowStart c n) := by
  rw [rowOfLine_inj, skipCursor_row, rowStart_row]

theorem entry_of_rowMigrating {h : HomeRow} (hm : s.rowMigrating h = true) :
    ∃ i : Fin 128, ∃ e, s.rmt[i] = some e ∧ e.home = h := by
  cases hs : s.slotOf h with
  | some i => exact ⟨i, State.slotOf_some hs⟩
  | none =>
    rw [State.rowMigrating, entryOf_of_slotOf_none hs] at hm
    exact absurd hm nofun

/-- The remap table has 128 slots, and no two rows are home in one: no more rows are in migration in a row (R99). -/
theorem skips_le (h : ∀ j, j < n → s.rowMigrating (rowOfLine (rowStart c j)) = true) : n ≤ 128 := by
  refine Nat.le_of_not_lt fun hn => ?_
  have hslot : ∀ j : Fin 129, ∃ i : Fin 128, ∃ e, s.rmt[i] = some e ∧ e.home = rowOfLine (rowStart c j) := fun j =>
    entry_of_rowMigrating (h j (by omega))
  choose slot hslot using hslot
  have hinj : Function.Injective slot := fun j j' hj => by
    obtain ⟨e, he, hhome⟩ := hslot j
    obtain ⟨e', he', hhome'⟩ := hslot j'
    obtain rfl : e = e' := Option.some.inj (he.symm.trans (hj ▸ he'))
    have hrow := (rowOfLine_inj _ _).mp (hhome.symm.trans hhome')
    rw [rowStart_row, rowStart_row] at hrow
    omega
  have hcard := Fintype.card_le_of_injective slot hinj
  simp at hcard

/-! ### Skips -/

/-- `u` is `s` after `n` skips of rows, each counted, at most one of them past the last row. -/
structure Skipped (s u : State) (n : Nat) : Prop where
  rest : u = { s with psc := u.psc, counters := u.counters, alc := u.alc }
  psc : u.psc = { s.psc with cursor := skipCursor s.psc.cursor n }
  skips : u.counter .skippedRows = satInc^[n] (s.counter .skippedRows)
  others : ∀ k, k ≠ .skippedRows → k ≠ .scrubPasses → u.counter k = s.counter k
  within : s.psc.cursor.val / 32 + n < 1048320 → u.alc = s.alc ∧ u.counter .scrubPasses = s.counter .scrubPasses
  wrapped : 1048320 ≤ s.psc.cursor.val / 32 + n →
    u.alc = { s.alc with scrubPass := true } ∧ u.counter .scrubPasses = satInc (s.counter .scrubPasses)

theorem Skipped.zero (s : State) : Skipped s s 0 where
  rest := rfl
  psc := rfl
  skips := rfl
  others := fun _ _ _ => rfl
  within := fun _ => ⟨rfl, rfl⟩
  wrapped := fun h => absurd h (by have := s.psc.cursor.isLt; omega)

/-- What a skip does to the counters, whether it wraps or not. -/
theorem rowSkip_counters (s : State) :
    s.rowSkip.counter .skippedRows = satInc (s.counter .skippedRows) ∧
      ∀ k, k ≠ .skippedRows → k ≠ .scrubPasses → s.rowSkip.counter k = s.counter k :=
  ⟨(moveCursor_counter _ _ (by decide)).trans (counted_bump s .skippedRows).1,
    fun k hk hk' => (moveCursor_counter _ _ hk').trans ((counted_bump s .skippedRows).2 k hk)⟩

theorem rowSkip_eq (s : State) :
    s.rowSkip = { s with psc := s.rowSkip.psc, counters := s.rowSkip.counters, alc := s.rowSkip.alc } := by
  rw [State.rowSkip, moveCursor_eq]
  rfl

/-- A skip that stays within the rows. -/
theorem rowSkip_within (h : s.psc.cursor.val / 32 + 1 < 1048320) :
    s.rowSkip.psc = { s.psc with cursor := ⟨(s.psc.cursor.val / 32 + 1) * 32, by omega⟩ } ∧ s.rowSkip.alc = s.alc ∧
      s.rowSkip.counter .scrubPasses = s.counter .scrubPasses := by
  have hlt : (s.psc.cursor.val / 32 + 1) * 32 < 33546240 := by omega
  have hskip : s.rowSkip = (s.bump .skippedRows).setPsc
      { s.psc with cursor := ⟨(s.psc.cursor.val / 32 + 1) * 32, hlt⟩ } := moveCursor_of_lt hlt
  rw [hskip]
  exact ⟨rfl, rfl, (counted_bump s .skippedRows).2 .scrubPasses (by decide)⟩

/-- A skip past the last row is a wrap. -/
theorem rowSkip_wraps (h : s.psc.cursor.val / 32 + 1 = 1048320) :
    s.rowSkip.psc = (s.bump .skippedRows).passWrap.psc ∧ s.rowSkip.alc = { s.alc with scrubPass := true } ∧
      s.rowSkip.counter .scrubPasses = satInc (s.counter .scrubPasses) := by
  have hskip : s.rowSkip = (s.bump .skippedRows).passWrap := moveCursor_of_ge (by omega)
  rw [hskip]
  exact ⟨rfl, rfl, (passWrap_passes _).trans
    (congrArg satInc ((counted_bump s .skippedRows).2 .scrubPasses (by decide)))⟩

theorem Skipped.counters_succ (h : Skipped s u n) :
    u.rowSkip.counter .skippedRows = satInc^[n + 1] (s.counter .skippedRows) ∧
      ∀ k, k ≠ .skippedRows → k ≠ .scrubPasses → u.rowSkip.counter k = s.counter k := by
  obtain ⟨hskips, hothers⟩ := rowSkip_counters u
  refine ⟨?_, fun k hk hk' => (hothers k hk hk').trans (h.others k hk hk')⟩
  rw [hskips, h.skips, Function.iterate_succ_apply']

theorem Skipped.rest_succ (h : Skipped s u n) :
    u.rowSkip = { s with psc := u.rowSkip.psc, counters := u.rowSkip.counters, alc := u.rowSkip.alc } :=
  (rowSkip_eq u).trans (congrArg
    (fun x : State => { x with psc := u.rowSkip.psc, counters := u.rowSkip.counters, alc := u.rowSkip.alc }) h.rest)

theorem Skipped.row (h : Skipped s u n) : u.psc.cursor.val / 32 = (s.psc.cursor.val / 32 + n) % 1048320 := by
  rw [h.psc]
  exact skipCursor_row _ n

theorem Skipped.rowMigrating (h : Skipped s u n) (r : HomeRow) : u.rowMigrating r = s.rowMigrating r := by
  rw [h.rest]
  rfl

/-- One more skip, where it does not end scrubbing. -/
theorem Skipped.succ (h : Skipped s u n) (hn : n ≤ 128)
    (hgo : u.psc.state ≠ .running .single ∨ s.psc.cursor.val / 32 + (n + 1) < 1048320) :
    Skipped s u.rowSkip (n + 1) := by
  have hc := s.psc.cursor.isLt
  have hrow := h.row
  obtain ⟨hskips, hothers⟩ := h.counters_succ
  by_cases hlast : s.psc.cursor.val / 32 + (n + 1) = 1048320
  · obtain ⟨hpsc, halc, hpasses⟩ := rowSkip_wraps (s := u) (by omega)
    obtain ⟨halc', hpasses'⟩ := h.within (by omega)
    refine ⟨h.rest_succ, ?_, hskips, hothers, fun hlt => absurd hlt (by omega), fun _ => ?_⟩
    · have hto : (0 : Fin 33546240) = skipCursor s.psc.cursor (n + 1) := by
        rw [skipCursor_succ, Fin.ext_iff, rowStart_val, hlast]
        rfl
      rw [hpsc, passWrap_goesOn (s := u.bump .skippedRows) (hgo.resolve_right (by omega)), hto]
      exact congrArg (fun x : Scrubber => { x with cursor := skipCursor s.psc.cursor (n + 1) }) h.psc
    · rw [halc, hpasses, halc', hpasses']
      exact ⟨rfl, rfl⟩
  · obtain ⟨hpsc, halc, hpasses⟩ := rowSkip_within (s := u) (by omega)
    refine ⟨h.rest_succ, ?_, hskips, hothers, fun hlt => ?_, fun hle => ?_⟩
    · have hto : (⟨(u.psc.cursor.val / 32 + 1) * 32, by omega⟩ : Fin 33546240) = skipCursor s.psc.cursor (n + 1) := by
        rw [skipCursor_succ, Fin.ext_iff, rowStart_val]
        dsimp only
        omega
      rw [hpsc, hto]
      exact congrArg (fun x : Scrubber => { x with cursor := skipCursor s.psc.cursor (n + 1) }) h.psc
    · rw [halc, hpasses]
      exact h.within (by omega)
    · rw [halc, hpasses]
      exact h.wrapped (by omega)

/-! ### The tests of one expiry -/

/-- What the row tests come to after `n` skips: a line begun at the row reached, or the end of scrubbing at a wrap in
mode SINGLE. -/
inductive LineBegun (s : State) (m : ScrubMode) : Nat → State → Prop
  | begun {u : State} {n : Nat} (skipped : Skipped s u n)
      (goes : m = .continuous ∨ s.psc.cursor.val / 32 + n < 1048320)
      (settled : s.rowMigrating (rowOfLine u.psc.cursor) = false) :
      LineBegun s m n (u.putLine (some (.begin u.psc.cursor)))
  | ended {u : State} {n : Nat} (skipped : Skipped s u n) (single : m = .single)
      (last : s.psc.cursor.val / 32 + (n + 1) = 1048320) : LineBegun s m (n + 1) u.rowSkip

theorem beginScrubLine_of_stopped (k : Nat) (h : s.psc.state.isRunning = false) : s.beginScrubLine k = s := by
  cases k with
  | zero => rfl
  | succ k => exact if_neg (by simp [h])

theorem beginScrubLine_succ (k : Nat) (h : s.psc.state = .running m) :
    s.beginScrubLine (k + 1) =
      if s.rowMigrating (rowOfLine s.psc.cursor) then s.rowSkip.beginScrubLine k
      else s.putLine (some (.begin s.psc.cursor)) :=
  if_pos (by rw [h]; rfl)

theorem lineBegun_beginScrubLine (hm : s.psc.state = .running m) (k : Nat) (h : Skipped s u n) (hk : n + k = 129)
    (hgo : m = .continuous ∨ s.psc.cursor.val / 32 + n < 1048320)
    (hmig : ∀ j, j < n → s.rowMigrating (rowOfLine (rowStart s.psc.cursor j)) = true) :
    ∃ n', (∀ j, j < n' → s.rowMigrating (rowOfLine (rowStart s.psc.cursor j)) = true) ∧
      LineBegun s m n' (u.beginScrubLine k) := by
  induction k generalizing u n with
  | zero => exact absurd (skips_le hmig) (by omega)
  | succ k ih =>
    have hstate : u.psc.state = .running m := by rw [h.psc, hm]
    rw [beginScrubLine_succ k hstate, h.rowMigrating]
    have hcursor : u.psc.cursor = skipCursor s.psc.cursor n := by rw [h.psc]
    split
    next hrow =>
      have hmig' : ∀ j, j < n + 1 → s.rowMigrating (rowOfLine (rowStart s.psc.cursor j)) = true := fun j hj => by
        rcases Nat.lt_succ_iff_lt_or_eq.mp hj with hlt | rfl
        · exact hmig j hlt
        · rwa [hcursor, rowOfLine_skipCursor] at hrow
      have hn := skips_le hmig'
      by_cases hgo' : m = .continuous ∨ s.psc.cursor.val / 32 + (n + 1) < 1048320
      · refine ih (h.succ (by omega) (hgo'.imp_left fun hc => ?_)) (by omega) hgo' hmig'
        rw [hstate, hc]
        nofun
      · obtain ⟨hsingle, hlast⟩ := not_or.mp hgo'
        have hsingle : m = .single := by
          cases m with
          | continuous => exact absurd rfl hsingle
          | single => rfl
        have hbefore := hgo.resolve_left (by rw [hsingle]; nofun)
        have hwrap : s.psc.cursor.val / 32 + (n + 1) = 1048320 := by omega
        have hrow' := h.row
        have hstopped : u.rowSkip.psc.state.isRunning = false := by
          rw [(rowSkip_wraps (s := u) (by omega)).1, passWrap_single (s := u.bump .skippedRows) (hsingle ▸ hstate)]
          rfl
        rw [beginScrubLine_of_stopped k hstopped]
        exact ⟨n + 1, hmig', .ended h hsingle hwrap⟩
    next hrow => exact ⟨n, hmig, .begun h hgo (Bool.eq_false_iff.mpr hrow)⟩

/-! ### The expiry -/

theorem exec_scrubIntervalExpiry_waits (h : isDue s.psc.timer = false) : exec .scrubIntervalExpiry s = .next s := by
  change execScrubIntervalExpiry s = _
  simp [execScrubIntervalExpiry, h]

/-- The interval timer restarted (R98). -/
def retimedScrub (s : State) : State := { s with psc := { s.psc with timer := some ⟨s.operating.scrubInterval, 0⟩ } }

theorem exec_scrubIntervalExpiry_due (h : isDue s.psc.timer = true) :
    exec .scrubIntervalExpiry s =
      .next (if s.psc.line.isSome then retimedScrub s else (retimedScrub s).beginScrubLine 129) := by
  change execScrubIntervalExpiry s = _
  rw [execScrubIntervalExpiry, if_pos h]
  rfl

/-- Settles O52: the row tests pass over rows in migration, at most one for each slot of the table. -/
theorem scrubIntervalBeginsALine : Obligations.ScrubIntervalBeginsALine := by
  unfold Obligations.ScrubIntervalBeginsALine
  refine ⟨fun s => ⟨exec_scrubIntervalExpiry_waits, fun hd hl => ?_, fun m hm hd hl hrow => ?_⟩,
    fun s m _ hm hd hl => ?_⟩
  · rw [exec_scrubIntervalExpiry_due hd, if_pos (Option.isSome_iff_ne_none.mpr hl)]
    rfl
  · rw [exec_scrubIntervalExpiry_due hd, if_neg (by simp [hl])]
    have hnot : ¬(retimedScrub s).rowMigrating (rowOfLine s.psc.cursor) = true := Bool.eq_false_iff.mp hrow
    exact congrArg Host.Outcome.next ((beginScrubLine_succ (s := retimedScrub s) 128 hm).trans (if_neg hnot))
  · obtain ⟨n, hmig, hbegun⟩ := lineBegun_beginScrubLine (s := retimedScrub s) hm 129 (.zero _) rfl
      (.inr (by have := s.psc.cursor.isLt; change s.psc.cursor.val / 32 + 0 < _; omega)) nofun
    have hexec := exec_scrubIntervalExpiry_due hd
    rw [if_neg (by simp [hl])] at hexec
    refine ⟨_, n, skipCursor s.psc.cursor n, hexec, rfl, skips_le hmig, hmig, ?_⟩
    generalize (retimedScrub s).beginScrubLine 129 = t at hbegun
    cases hbegun with
    | @begun u n h hgo hrow =>
      have hcursor : u.psc.cursor = skipCursor s.psc.cursor n := by rw [h.psc]; rfl
      refine ⟨h.skips, h.others, ?_, h.within, h.wrapped, fun _ => ⟨hcursor ▸ hrow, ?_⟩, fun hs hle => ?_⟩
      · exact congrArg (fun x : State => x.putLine (some (.begin u.psc.cursor))) h.rest
      · have hline : (u.putLine (some (.begin u.psc.cursor))).psc =
          { u.psc with line := some (.begin u.psc.cursor) } := rfl
        rw [hline, hcursor, h.psc, ← hm]
        rfl
      · exact absurd hle (Nat.not_le.mpr (hgo.resolve_left (by rw [hs]; nofun)))
    | @ended u n h hs hlast =>
      have hrow := h.row
      have hstate : u.psc.state = .running .single := by rw [h.psc, ← hs, ← hm]; rfl
      obtain ⟨hskips, hothers⟩ := h.counters_succ
      change s.psc.cursor.val / 32 + (n + 1) = 1048320 at hlast
      change u.psc.cursor.val / 32 = (s.psc.cursor.val / 32 + n) % 1048320 at hrow
      obtain ⟨hpsc, halc, hpasses⟩ := rowSkip_wraps (s := u) (by omega)
      obtain ⟨halc', hpasses'⟩ := h.within (by change s.psc.cursor.val / 32 + n < _; omega)
      refine ⟨hskips, hothers, h.rest_succ, fun hlt => absurd hlt (by omega), fun _ => ?_, fun hgo => ?_,
        fun _ _ => ⟨hlast, ?_⟩⟩
      · rw [halc, hpasses, halc', hpasses']
        exact ⟨rfl, rfl⟩
      · exact absurd hgo (not_or.mpr ⟨by rw [hs]; nofun, by omega⟩)
      · rw [hpsc, passWrap_single (s := u.bump .skippedRows) hstate]
        have hu : (u.bump .skippedRows).psc = u.psc := rfl
        rw [hu, h.psc, ← hl]
        rfl

end Sys2Proof.Proofs
end

section
/-! SUPPORT. The upstream port: protocol errors, link reset and entry to UP, gate, answers to host legs and to orphans
(sections 7.2 to 7.6), and the statements O24, O26, O27, O34 and O35. -/

namespace Sys2Proof.Proofs

open Sys2Proof Sys2Proof.Machine Sys2Proof.Claims

variable {s t u v : State} {tag : Fin 64} {r : HostRecord} {msg : List Byte}

/-! ### Protocol errors (R124) -/

theorem receive_of_error {e : ProtocolError} (h : s.protocolCheck msg = e) (hne : e ≠ .none) :
    s.receive msg = s.protocolError e := by
  unfold State.receive
  rw [h]
  split
  · exact absurd rfl hne
  · exact absurd rfl hne
  · rfl

theorem protocolCheck_down (hl : s.up.link = .down) : s.protocolCheck msg = .notUp :=
  if_pos hl

theorem protocolCheck_noCredit (hl : s.up.link = .up) (hc : s.up.credits = 0) : s.protocolCheck msg = .noCredit := by
  simp [State.protocolCheck, hl, hc]

theorem protocolCheck_tagInUse (hl : s.up.link = .up) (hc : s.up.credits ≠ 0) (ht : requestTag msg = some tag)
    (hr : (s.record tag).isSome = true) : s.protocolCheck msg = .tagInUse := by
  simp [State.protocolCheck, hl, hc, ht, hr]

theorem protocolCheck_badKind (hl : s.up.link = .up) (hc : s.up.credits ≠ 0)
    (hr : ∀ tag, requestTag msg = some tag → s.record tag = none) (hk : requestKind msg = none) :
    s.protocolCheck msg = .badKind := by
  have hfree : (requestTag msg).any (fun t => (s.record t).isSome) = false := by
    cases ht : requestTag msg with
    | none => rfl
    | some tag => simp [hr tag ht]
  simp [State.protocolCheck, hl, hc, hfree, hk]

theorem exec_upstreamRequest (hr : s.inReset = false) (hp : s.pins.upRstN = true) (msg : List Byte) :
    exec (.upstreamRequest msg) s = .next (s.receive msg) := by
  change execUpstreamRequest msg s = _
  simp [execUpstreamRequest, hr, hp]

/-- Settles O24: each reason is what the protocol check finds first. -/
theorem protocolErrorDiscardsRequest : Obligations.ProtocolErrorDiscardsRequest := by
  unfold Obligations.ProtocolErrorDiscardsRequest
  refine ⟨fun s msg hp => exec_upstreamRequest_unheard msg (.inr hp), fun s msg e hr hp h => ?_⟩
  have hcheck : s.protocolCheck msg = e ∧ e ≠ .none := by
    rcases h with ⟨rfl, hl⟩ | ⟨rfl, hl, hc⟩ | ⟨rfl, hl, hc, tag, ht, hrec⟩ | ⟨rfl, hl, hc, hfree, hk⟩
    · exact ⟨protocolCheck_down hl, nofun⟩
    · exact ⟨protocolCheck_noCredit hl hc, nofun⟩
    · exact ⟨protocolCheck_tagInUse hl hc ht hrec, nofun⟩
    · exact ⟨protocolCheck_badKind hl hc hfree hk, nofun⟩
  refine ⟨s.protocolError e, ?_, rfl, counted_bump s .protocolErrors, rfl, rfl⟩
  rw [exec_upstreamRequest hr hp, receive_of_error hcheck.1 hcheck.2]

/-! ### Link (R123, R134) -/

theorem hasOrphan_iff : s.hasOrphan = true ↔ ∃ tag, ∃ r ∈ s.record tag, r.orphan = true := by
  simp [State.hasOrphan, Option.any_eq_true]

theorem upstreamEntry_of_ready (hl : s.up.link = .down) (hp : s.pins.upRstN = true) (hf : s.rst.force = .none)
    (ho : ∀ tag, ∀ r ∈ s.record tag, r.orphan = false) :
    s.upstreamEntry = { s with up := { s.up with link := .up, credits := 64 } } :=
  if_pos ⟨hl, hp, hf, hasOrphan_eq_false_iff.mpr ho⟩

theorem upstreamEntry_of_not_ready
    (h : s.up.link = .up ∨ s.pins.upRstN = false ∨ s.rst.force ≠ .none ∨ ∃ tag, ∃ r ∈ s.record tag, r.orphan = true) :
    s.upstreamEntry = s := by
  refine if_neg fun ⟨hl, hp, hf, ho⟩ => ?_
  rcases h with h | h | h | h
  · exact absurd (hl.symm.trans h) nofun
  · exact absurd (hp.symm.trans h) nofun
  · exact h hf
  · exact absurd (ho.symm.trans (hasOrphan_iff.mpr h)) nofun

/-- Entry to UP changes link and credits alone. -/
theorem upstreamEntry_up (s : State) :
    s.upstreamEntry.up = { s.up with link := s.upstreamEntry.up.link, credits := s.upstreamEntry.up.credits } := by
  unfold State.upstreamEntry
  split <;> rfl

theorem orphanEntry_eq (forward : List (Fin 64)) (e : FifoEntry) :
    orphanEntry forward e =
      match e.owner with
      | .host tag _ => if tag ∈ forward then e else { e with orphan := true }
      | _ => e := by
  cases ho : e.owner <;> simp [orphanEntry, FifoEntry.hostTag, ho]

/-- Settles O26: the reset of the link record by record and entry by entry, and the entry to UP by its conditions. -/
theorem upstreamLinkResetsAndEntersUp : Obligations.UpstreamLinkResetsAndEntersUp := by
  unfold Obligations.UpstreamLinkResetsAndEntersUp
  refine ⟨fun s => ⟨upstreamReset s, rfl, rfl, rfl, upstreamReset_record s, ?_⟩, fun s =>
    ⟨fun hl hf ho => ⟨?_, fun hp => ?_⟩,
    fun h => ⟨?_, ?_⟩, fun hp => ?_⟩⟩
  · exact List.map_congr_left fun e _ => orphanEntry_eq s.up.forward e
  · exact congrArg Host.Outcome.next
      (upstreamEntry_of_ready (s := s.setPins { s.pins with upRstN := true }) hl rfl hf ho)
  · exact congrArg Host.Outcome.next (upstreamEntry_of_ready hl hp hf ho)
  · exact congrArg Host.Outcome.next
      (upstreamEntry_of_not_ready (s := s.setPins { s.pins with upRstN := true }) (h.imp_right .inr))
  · exact congrArg Host.Outcome.next (upstreamEntry_of_not_ready (h.imp_right .inr))
  · exact congrArg Host.Outcome.next (upstreamEntry_of_not_ready (.inr (.inl hp)))

/-! ### Gate (R130, R131) -/

theorem drainCheck_ends (hg : s.up.gate = .draining) (he : ∀ tag, s.record tag = none) :
    s.drainCheck = { s with up := { s.up with gate := .closed } } :=
  if_pos ⟨hg, hrtEmpty_iff.mpr he⟩

theorem drainCheck_goes_on (h : s.up.gate ≠ .draining ∨ ∃ tag, s.record tag ≠ none) : s.drainCheck = s := by
  refine if_neg fun ⟨hg, he⟩ => ?_
  obtain ⟨tag, hr⟩ := h.resolve_left fun hn => hn hg
  exact hr (hrtEmpty_iff.mp he tag)

theorem exec_gateOpen {rep : Reply} (hs : Heard s) (hb : gateOpenBody s = (rep, t)) :
    exec (.gateOpen []) s = .next (t.answer 20#8 [20#8] rep) :=
  congrArg Host.Outcome.next (runAction_eq (a := .gateOpen) hs rfl hb)

theorem exec_gateDrain {rep : Reply} (hs : Heard s) (hb : gateDrainBody s = (rep, t)) :
    exec (.gateDrain []) s = .next (t.answer 21#8 [21#8] rep) :=
  congrArg Host.Outcome.next (runAction_eq (a := .gateDrain) hs rfl hb)

theorem gateDrainBody_empty (hg : s.up.gate = .opened) (he : ∀ tag, s.record tag = none) :
    gateDrainBody s = (.done [0#8, 0#8], { s with up := { s.up with gate := .closed } }) := by
  rw [gateDrainBody, if_neg (not_not.mpr hg), hrtEmpty_iff.mpr he, hrtCount_of_empty he]
  rfl

theorem gateDrainBody_drains (hg : s.up.gate = .opened) (he : ∃ tag, s.record tag ≠ none) :
    gateDrainBody s = (.done [2#8, byte s.hrtCount], { s with up := { s.up with gate := .draining } }) := by
  have hempty : s.hrtEmpty = false := by
    refine Bool.eq_false_iff.mpr fun h => ?_
    obtain ⟨tag, hr⟩ := he
    exact hr (hrtEmpty_iff.mp h tag)
  rw [gateDrainBody, if_neg (not_not.mpr hg), hempty]
  rfl

/-- Settles O27, from the two bodies and the drain check. -/
theorem gateOpensAndDrains : Obligations.GateOpensAndDrains := by
  unfold Obligations.GateOpensAndDrains
  refine fun s => ⟨fun hs => ⟨fun hg => exec_gateOpen hs (if_neg hg), fun hg => exec_gateOpen hs (if_pos hg),
    fun hg => exec_gateDrain hs (if_pos hg), fun hg he => exec_gateDrain hs (gateDrainBody_empty hg he),
    fun hg he => exec_gateDrain hs (gateDrainBody_drains hg he)⟩,
    fun hg he => congrArg Host.Outcome.next (drainCheck_ends hg he),
    fun h => congrArg Host.Outcome.next (drainCheck_goes_on h)⟩

/-! ### Answers to host legs (R128, R135) -/

theorem putRecord_none_empty_iff :
    (∀ t, (s.putRecord tag none).record t = none) ↔ ∀ t', t' ≠ tag → s.record t' = none := by
  refine forall_congr' fun t => ?_
  rw [State.record_putRecord]
  by_cases ht : t = tag <;> simp [ht]

theorem forall_removed_iff {P : HostRecord → Prop} :
    (∀ t, ∀ r' ∈ (s.putRecord tag none).record t, P r') ↔ ∀ t', t' ≠ tag → ∀ r' ∈ s.record t', P r' := by
  refine forall_congr' fun t => ?_
  rw [State.record_putRecord]
  by_cases ht : t = tag <;> simp [ht]

theorem exists_removed_iff {P : HostRecord → Prop} :
    (∃ t, ∃ r' ∈ (s.putRecord tag none).record t, P r') ↔ ∃ t', t' ≠ tag ∧ ∃ r' ∈ s.record t', P r' := by
  refine exists_congr fun t => ?_
  rw [State.record_putRecord]
  by_cases ht : t = tag <;> simp [ht]

/-- The gate after the last record that a drain waits for is removed. -/
theorem drainCheck_removed (hu : u.up.gate = s.up.gate) (hr : ∀ t', u.record t' = (s.putRecord tag none).record t')
    [Decidable (s.up.gate = .draining ∧ ∀ t', t' ≠ tag → s.record t' = none)] :
    u.drainCheck = u.setUp { u.up with
      gate := if s.up.gate = .draining ∧ (∀ t', t' ≠ tag → s.record t' = none) then .closed else s.up.gate } := by
  split
  next h =>
    obtain ⟨hg, he⟩ := h
    refine drainCheck_ends (hu.trans hg) fun t => (hr t).trans ?_
    exact putRecord_none_empty_iff.mpr he t
  next h =>
    rw [← hu]
    refine drainCheck_goes_on ?_
    by_cases hg : u.up.gate = .draining
    · refine .inr (Classical.byContradiction fun hne => h ⟨hu.symm.trans hg, putRecord_none_empty_iff.mp fun t => ?_⟩)
      rw [← hr]
      exact Classical.byContradiction fun hsome => hne ⟨t, hsome⟩
    · exact .inl hg

theorem hostAnswer_more {st : AnswerStatus} {data : List Byte} (hr : s.record tag = some r)
    (hm : r.legsAnswered + 1 ≠ r.legsIssued) :
    s.hostAnswer tag st data = s.putRecord tag (some (r.answered st data)) := by
  simp only [State.hostAnswer, hr]
  exact if_neg hm

theorem hostAnswer_last {st : AnswerStatus} {data : List Byte} (hr : s.record tag = some r)
    (hm : r.legsAnswered + 1 = r.legsIssued) :
    s.hostAnswer tag st data =
      ((s.putRecord tag none).respond tag (r.worst.worse st).response
        (r.answered st data).responseData).drainCheck := by
  simp only [State.hostAnswer, hr]
  exact if_pos hm

theorem orphanAnswer_more (hr : s.record tag = some r) (hm : r.legsAnswered + 1 ≠ r.legsIssued) :
    s.orphanAnswer tag = s.putRecord tag (some { r with legsAnswered := r.legsAnswered + 1 }) := by
  simp only [State.orphanAnswer, hr]
  exact if_neg hm

theorem orphanAnswer_last (hr : s.record tag = some r) (hm : r.legsAnswered + 1 = r.legsIssued) :
    s.orphanAnswer tag = ((s.putRecord tag none).upstreamEntry).drainCheck := by
  simp only [State.orphanAnswer, hr]
  exact if_pos hm

/-- The data of the last response: the READ's, from this leg or from the one before it (Table 7-5). -/
theorem responseData_answered (r : HostRecord) (st : AnswerStatus) (data : List Byte) :
    (r.answered st data).responseData =
      if r.kind = .read ∧ r.worst.worse st ≠ .ue then (if st = .ue then r.readData.getD [] else data) else [] := by
  unfold HostRecord.responseData HostRecord.answered
  dsimp only
  split
  next h => by_cases hst : st = .ue <;> simp [hst, h.1]
  · rfl

theorem deliver_host {e : FifoEntry} {leg : Leg} {st : AnswerStatus} {data : List Byte} (ho : e.owner = .host tag leg)
    (horphan : e.orphan = false) : s.deliver e st data = (s.hostAnswer tag st data).attributeHost e.home st := by
  simp only [State.deliver, ho, horphan]

theorem deliver_orphan {e : FifoEntry} {leg : Leg} {st : AnswerStatus} {data : List Byte} (ho : e.owner = .host tag leg)
    (horphan : e.orphan = true) : s.deliver e st data = (s.orphanAnswer tag).attributeHost e.home st := by
  simp only [State.deliver, ho, horphan]

/-- An answer to a host leg reaches the upstream port and what was sent alone. -/
theorem hostAnswer_eq (s : State) (tag : Fin 64) (st : AnswerStatus) (data : List Byte) :
    s.hostAnswer tag st data =
      { s with up := (s.hostAnswer tag st data).up, wires := (s.hostAnswer tag st data).wires } := by
  unfold State.hostAnswer State.drainCheck
  split
  · rfl
  · dsimp only
    split
    · split <;> rfl
    · rfl

theorem orphanAnswer_eq (s : State) (tag : Fin 64) :
    s.orphanAnswer tag = { s with up := (s.orphanAnswer tag).up } := by
  unfold State.orphanAnswer State.drainCheck State.upstreamEntry
  split
  · rfl
  · split
    · split <;> split <;> rfl
    · rfl

/-- Settles O34: the record counts the answer, or leaves with its response. -/
theorem hostLegAnswersRespond : Obligations.HostLegAnswersRespond := by
  unfold Obligations.HostLegAnswersRespond
  intro s msg e rest tag leg r st w data hl hf ho horphan hm hr hw
  subst hw
  have hr' : (s.popFifo rest).record tag = some r := hr
  refine ⟨(s.popFifo rest).hostAnswer tag st data, ?_, ?_, fun hmore => ?_, fun hlast => ?_⟩
  · rw [exec_downstreamAnswer hl hf hm, deliver_host ho horphan]
  · exact (hostAnswer_eq ..).trans (congrArg (fun x : State => { x with
      up := ((s.popFifo rest).hostAnswer tag st data).up, wires := ((s.popFifo rest).hostAnswer tag st data).wires })
      (popFifo_eq s rest))
  · rw [hostAnswer_more hr' hmore]
    exact ⟨rfl, rfl⟩
  · have hdrain := drainCheck_removed (s := s) (tag := tag) (u := ((s.popFifo rest).putRecord tag none).respond tag
      (r.worst.worse st).response (r.answered st data).responseData) rfl fun _ => rfl
    rw [hostAnswer_last hr' hlast, hdrain, ← responseData_answered]
    exact ⟨rfl, rfl⟩

/-- Settles O35: the orphan's record counts the answer or leaves, and other orphans' entries are only removed. -/
theorem orphanedAnswersAreAbsorbed : Obligations.OrphanedAnswersAreAbsorbed := by
  unfold Obligations.OrphanedAnswersAreAbsorbed
  refine ⟨fun s msg e rest tag leg r st data hl hf ho horphan hm hr => ?_, fun s msg =>
    ⟨fun e rest hl hf ho horphan hm => ?_,
    fun hl => ?_⟩⟩
  · have hr' : (s.popFifo rest).record tag = some r := hr
    refine ⟨(s.popFifo rest).orphanAnswer tag, ?_, ?_, fun hmore => ?_, fun hlast => ?_⟩
    · rw [exec_downstreamAnswer hl hf hm, deliver_orphan ho horphan]
    · exact (orphanAnswer_eq ..).trans (congrArg (fun x : State => { x with
        up := ((s.popFifo rest).orphanAnswer tag).up }) (popFifo_eq s rest))
    · rw [orphanAnswer_more hr' hmore]
      rfl
    · have hup := upstreamEntry_up ((s.popFifo rest).putRecord tag none)
      have hdrain := drainCheck_removed (s := s) (tag := tag) (u := ((s.popFifo rest).putRecord tag none).upstreamEntry)
        (by rw [hup]; rfl) fun t => by rw [State.record, hup]; rfl
      rw [orphanAnswer_last hr' hlast, hdrain]
      refine ⟨(congrArg UpstreamPort.hrt hup :), (congrArg UpstreamPort.forward hup :),
        (congrArg UpstreamPort.lastError hup :), rfl,
        fun ⟨hdown, hpin, hforce, hothers⟩ => ?_, fun hnot => ?_⟩
      · rw [upstreamEntry_of_ready (s := (s.popFifo rest).putRecord tag none) hdown hpin hforce
          ((forall_removed_iff (s := s.popFifo rest)).mpr hothers)]
        exact ⟨rfl, rfl⟩
      · rw [upstreamEntry_of_not_ready (s := (s.popFifo rest).putRecord tag none)
          (hnot.imp_right (Or.imp_right (Or.imp_right (exists_removed_iff (s := s.popFifo rest)).mpr)))]
        exact ⟨rfl, rfl⟩
  · obtain ⟨⟨st, data⟩, hfit⟩ := Option.ne_none_iff_exists'.mp hm
    have hdeliver : (s.popFifo rest).deliver e st data = s.popFifo rest := by
      rcases ho with ho | ho <;> simp only [State.deliver, ho, horphan]
    rw [exec_downstreamAnswer hl hf hfit, hdeliver, popFifo_eq]
  · exact congrArg Host.Outcome.next (if_neg hl)

end Sys2Proof.Proofs
end

section
/-! SUPPORT. The states of the downstream link: entry to UP, retraining (R147, R150), a fault and what it leaves of
every block (R148, R149, Table 8-6), and the statements O40 and O41. -/

namespace Sys2Proof.Proofs

open Sys2Proof Sys2Proof.Machine Sys2Proof.Claims

variable {s t u : State} {c : MigContext} {tag : Fin 64}

/-! ### Entry to UP and retraining -/

theorem downstreamEntry_enters (hl : s.dp.link = .retrain) (hp : s.dp.pulse = none) (hr : s.pins.dpReady = true) :
    s.downstreamEntry =
      { s with
        dp := { s.dp with link := .up }
        psc := match s.psc.state with
               | .paused m => { s.psc with state := .running m, timer := some ⟨s.operating.scrubInterval, 0⟩ }
               | _ => s.psc } := by
  have hentry : s.downstreamEntry = (s.setDp { s.dp with link := .up }).resumeScrubber := if_pos ⟨hl, hp, hr⟩
  have hpsc : (s.setDp { s.dp with link := .up }).psc = s.psc := rfl
  rw [hentry, State.resumeScrubber, hpsc]
  cases s.psc.state <;> rfl

theorem downstreamEntry_stays (h : ¬(s.dp.link = .retrain ∧ s.dp.pulse = none ∧ s.pins.dpReady = true)) :
    s.downstreamEntry = s :=
  if_neg h

theorem exec_dpRstPulseEnd (hr : s.inReset = false) (hd : isDue s.dp.pulse = true) :
    exec .dpRstPulseEnd s = .next { s with dp := { s.dp with pulse := none } }.downstreamEntry := by
  change execDpRstPulseEnd s = _
  simp only [execDpRstPulseEnd, hr, hd]
  rfl

theorem exec_recover {r : Reply} (hs : Heard s) (hb : recoverBody s = (r, t)) :
    exec (.recover []) s = .next (t.answer 22#8 [22#8] r) :=
  congrArg Host.Outcome.next (runAction_eq (a := .recover) hs rfl hb)

/-- Settles O41: each enabling event makes the entry to UP, whose conditions are those of R147. -/
theorem downstreamLinkRetrainsAndEntersUp : Obligations.DownstreamLinkRetrainsAndEntersUp := by
  unfold Obligations.DownstreamLinkRetrainsAndEntersUp
  refine ⟨fun s c u h => ?_, fun s => ⟨fun h => ?_, fun _ => rfl, fun h => ?_, fun h => ?_⟩,
    fun s hs => ⟨fun hl => exec_recover hs (if_pos hl), fun hl => exec_recover hs (if_neg hl)⟩⟩
  · have hexec : exec c s = .next u.downstreamEntry ∧ u.psc = s.psc ∧ u.operating = s.operating := by
      rcases h with ⟨rfl, rfl⟩ | ⟨rfl, rfl⟩ | ⟨rfl, hr, hd, rfl⟩
      · exact ⟨rfl, rfl, rfl⟩
      · exact ⟨rfl, rfl, rfl⟩
      · exact ⟨exec_dpRstPulseEnd hr hd, rfl, rfl⟩
    obtain ⟨hexec, hpsc, hoperating⟩ := hexec
    rw [hexec, ← hpsc, ← hoperating]
    exact ⟨fun ⟨hl, hp, hr⟩ => congrArg _ (downstreamEntry_enters hl hp hr),
      fun hnot => congrArg _ (downstreamEntry_stays hnot)⟩
  · refine congrArg Host.Outcome.next (if_neg ?_)
    rcases h with h | h <;> simp [h]
  · exact congrArg Host.Outcome.next (if_neg h)
  · exact congrArg Host.Outcome.next (if_neg fun ⟨hl, hd⟩ =>
      h.elim (fun hn => hn hl) fun hn => absurd (hd.symm.trans hn) nofun)

/-! ### The order of the FAILED answers (R129) -/

theorem idxOf_filter_lt {α : Type} [DecidableEq α] {p : α → Bool} {a b : α} (ha : p a = true) :
    ∀ {l : List α}, l.idxOf a < l.idxOf b → (l.filter p).idxOf a < (l.filter p).idxOf b := by
  intro l
  induction l with
  | nil => exact id
  | cons x l ih =>
    intro h
    by_cases hb : x = b
    · subst hb
      rw [List.idxOf_cons_self] at h
      exact absurd h (Nat.not_lt_zero _)
    by_cases hxa : x = a
    · subst hxa
      rw [List.filter_cons_of_pos ha, List.idxOf_cons_self, List.idxOf_cons_ne _ hb]
      exact Nat.succ_pos _
    rw [List.idxOf_cons_ne _ hxa, List.idxOf_cons_ne _ hb, Nat.succ_lt_succ_iff] at h
    by_cases hx : p x = true
    · rw [List.filter_cons_of_pos hx, List.idxOf_cons_ne _ hxa, List.idxOf_cons_ne _ hb]
      exact Nat.succ_lt_succ (ih h)
    · rw [List.filter_cons_of_neg hx]
      exact ih h

theorem idxOf_firstTags_lt {a b : Fin 64} {l : List (Fin 64)} (h : l.idxOf a < l.idxOf b) :
    (firstTags l).idxOf a < (firstTags l).idxOf b := by
  induction l with
  | nil => exact h
  | cons x l ih =>
    by_cases hb : x = b
    · subst hb
      rw [List.idxOf_cons_self] at h
      exact absurd h (Nat.not_lt_zero _)
    by_cases hxa : x = a
    · subst hxa
      rw [firstTags, List.idxOf_cons_self, List.idxOf_cons_ne _ hb]
      exact Nat.succ_pos _
    rw [List.idxOf_cons_ne _ hxa, List.idxOf_cons_ne _ hb, Nat.succ_lt_succ_iff] at h
    rw [firstTags, List.idxOf_cons_ne _ hxa, List.idxOf_cons_ne _ hb]
    exact Nat.succ_lt_succ (idxOf_filter_lt (by simpa using fun h : a = x => hxa h.symm) (ih h))

/-- Places in a list stay in order where more is appended. -/
theorem idxOf_append_lt {α : Type} [DecidableEq α] {a b : α} {l l' : List α} (h : l.idxOf a < l.idxOf b) :
    (l ++ l').idxOf a < (l ++ l').idxOf b := by
  have ha : a ∈ l := List.idxOf_lt_length_iff.mp (h.trans_le List.idxOf_le_length)
  rw [List.idxOf_append_of_mem ha]
  by_cases hb : b ∈ l
  · rwa [List.idxOf_append_of_mem hb]
  · rw [List.idxOf_append_of_notMem hb]
    exact (h.trans_le List.idxOf_le_length).trans_le (Nat.le_add_right _ _)

theorem mem_firstTags {l : List (Fin 64)} : tag ∈ firstTags l ↔ tag ∈ l := by
  induction l with
  | nil => exact Iff.rfl
  | cons x l ih =>
    rw [firstTags, List.mem_cons, List.mem_cons, List.mem_filter, ih]
    by_cases h : tag = x <;> simp [h]

theorem mem_failedTags_iff : tag ∈ s.failedTags ↔ ∃ r ∈ s.record tag, r.orphan = false := by
  rw [State.failedTags, List.mem_filter, mem_firstTags]
  simp [Option.any_eq_true]

/-- FAILED goes out in issue order, then in forward-queue order. -/
theorem idxOf_failedTags_lt {a b : Fin 64} (ha : a ∈ s.failedTags)
    (h : (s.dp.fifo.filterMap FifoEntry.hostTag ++ s.up.forward).idxOf a <
      (s.dp.fifo.filterMap FifoEntry.hostTag ++ s.up.forward).idxOf b) :
    s.failedTags.idxOf a < s.failedTags.idxOf b :=
  idxOf_filter_lt (p := fun t => (s.record t).any fun r : HostRecord => !r.orphan) (List.mem_filter.mp ha).2
    (idxOf_firstTags_lt (idxOf_append_lt h))

/-! ### The upstream port at a fault (R129) -/

theorem failHost_wires (s : State) :
    s.failHost.wires = { s.wires with upTx := s.wires.upTx ++ s.failedTags.map fun tag => [byte tag.val, 5#8] } := by
  rw [failHost_eq]
  simp only [State.upstreamEntry_frame, State.drainCheck_frame]
  rfl

theorem flushedHost_drained (s : State) :
    (flushedHost s).drainCheck.up =
      { (flushedHost s).up with gate := if s.up.gate = .draining then .closed else s.up.gate } := by
  by_cases hg : s.up.gate = .draining
  · rw [if_pos hg, drainCheck_ends (s := flushedHost s) hg (flushedHost_record s)]
  · rw [if_neg hg, drainCheck_goes_on (s := flushedHost s) (.inl hg)]
    rfl

theorem failHost_up (s : State) :
    s.failHost.up =
      { link := s.failHost.up.link, credits := s.failHost.up.credits, hrt := Vector.replicate 64 none, forward := []
        gate := if s.up.gate = .draining then .closed else s.up.gate, lastError := s.up.lastError } := by
  have hup := upstreamEntry_up (flushedHost s).drainCheck
  rw [flushedHost_drained] at hup
  exact hup

theorem failHost_record (s : State) (tag : Fin 64) : s.failHost.record tag = none := by
  rw [State.record, failHost_up]
  simp

theorem failHost_link_up (hl : s.up.link = .up) :
    s.failHost.up.link = .up ∧ s.failHost.up.credits = s.up.credits + s.failedTags.length := by
  have hlink : (flushedHost s).drainCheck.up.link = .up := by rw [flushedHost_drained]; exact hl
  rw [failHost_eq, upstreamEntry_of_not_ready (.inl hlink), flushedHost_drained]
  exact ⟨hl, rfl⟩

theorem failHost_link_down (hl : s.up.link = .down) (hp : s.pins.upRstN = true) (hf : s.rst.force = .none) :
    s.failHost.up.link = .up ∧ s.failHost.up.credits = 64 := by
  have hlink : (flushedHost s).drainCheck.up.link = .down := by rw [flushedHost_drained]; exact hl
  have hnone : ∀ tag, ∀ r ∈ (flushedHost s).drainCheck.record tag, r.orphan = false := fun tag r hr => by
    rw [State.record, flushedHost_drained] at hr
    exact absurd ((flushedHost_record s tag).symm.trans hr) nofun
  rw [failHost_eq, upstreamEntry_of_ready hlink (by simpa [flushedHost] using hp) (by simpa [flushedHost] using hf)
    hnone]
  exact ⟨rfl, rfl⟩

/-! ### Every owner at a fault -/

/-- The state of a fault before the engines settle their claims. -/
def faultBase (s : State) (reason : FaultReason) : State :=
  ((s.failHost.faultPort reason).bump .dlinkFaults).raise .link

theorem enterFault_eq (s : State) (reason : FaultReason) :
    s.enterFault reason = ((faultBase s reason).abortMigration .abortedDownstream true).pauseScrubber.putStarvation 0 :=
  rfl

theorem faultBase_blocks (s : State) (reason : FaultReason) :
    (faultBase s reason).rmt = s.rmt ∧ (faultBase s reason).spl = s.spl ∧ (faultBase s reason).emn = s.emn ∧
      (faultBase s reason).mge = s.mge ∧ (faultBase s reason).psc = s.psc ∧
      (faultBase s reason).alc = { s.alc with link := true } ∧
      (faultBase s reason).counters = (s.bump .dlinkFaults).counters := by
  refine ⟨?_, ?_, ?_, ?_, ?_, ?_, ?_⟩
  case refine_6 => rw [faultBase, State.raise]; simp [State.faultPort, AlertController.put]
  case refine_7 => rw [faultBase]; simp
  all_goals simp [faultBase]

theorem abortMigration_alc (s : State) (o : MigOutcome) :
    (s.abortMigration o true).alc = { s.alc with migration := s.alc.migration || s.mge.ctx.isSome } := by
  cases hc : s.mge.ctx with
  | none => simp [abortMigration_of_idle hc]
  | some c => simp [State.abortMigration, hc, State.raise, AlertController.put]

theorem abortMigration_counters (s : State) (o : MigOutcome) (a : Bool) :
    (s.abortMigration o a).counters =
      if s.mge.ctx.isSome then (s.bump .migrationsAborted).counters else s.counters := by
  cases hc : s.mge.ctx with
  | none => simp [abortMigration_of_idle hc]
  | some c => cases a <;> simp [State.abortMigration, hc]

theorem rolledBack_of_migration {e : RemapEntry} {cur : Option (Fin 16)} {nx : Fin 16}
    (hm : e.st.migration = some (cur, nx)) : rolledBack e = cur.map fun x => ⟨e.home, .active x⟩ := by
  obtain ⟨home, st⟩ := e
  cases st with
  | active => exact absurd hm nofun
  | moving cur' nx' | held cur' nx' =>
    obtain ⟨rfl, rfl⟩ : cur' = cur ∧ nx' = nx := by simpa [EntryState.migration] using hm
    rfl

/-- R21 for the entry of a slot, whatever its state. -/
theorem rollbackSlot_table {i : Fin 128} {e : RemapEntry} (hi : s.rmt[i] = some e) :
    (s.rollbackSlot i).rmt = s.rmt.set i (rolledBack e) := by
  cases hm : e.st.migration with
  | none =>
    rw [rollbackSlot_of_settled fun e' he' => by rw [← Option.some.inj (hi.symm.trans he')]; exact hm]
    have hback : rolledBack e = s.rmt[i] := by
      rw [hi]
      obtain ⟨home, st⟩ := e
      cases st with
      | active => rfl
      | moving | held => exact absurd hm nofun
    rw [hback]
    exact (Vector.set_getElem_self ..).symm
  | some m =>
    obtain ⟨cur, nx⟩ := m
    rw [rollbackSlot_of_migration hi hm, rolledBack_of_migration hm]
    rfl

/-! ### What a fault leaves, block by block -/

theorem enterFault_wires (s : State) (reason : FaultReason) : (s.enterFault reason).wires = s.failHost.wires := by
  simp [State.enterFault]

theorem enterFault_alc (s : State) (reason : FaultReason) :
    (s.enterFault reason).alc = { s.alc with link := true, migration := s.alc.migration || s.mge.ctx.isSome } := by
  obtain ⟨-, -, -, hmge, -, halc, -⟩ := faultBase_blocks s reason
  rw [enterFault_eq, State.putStarvation]
  simp only [State.setDp, State.pauseScrubber_frame, abortMigration_alc, hmge, halc]

theorem enterFault_counter (s : State) (reason : FaultReason) (k : Counter) :
    (s.enterFault reason).counter k =
      if k = .dlinkFaults ∨ k = .migrationsAborted ∧ s.mge.ctx.isSome = true then satInc (s.counter k)
      else s.counter k := by
  obtain ⟨-, -, -, hmge, -, -, hcounters⟩ := faultBase_blocks s reason
  have hbase : ∀ k, (faultBase s reason).counter k = (s.bump .dlinkFaults).counter k := fun k =>
    State.counter_congr hcounters k
  have habort : (s.enterFault reason).counters =
      if s.mge.ctx.isSome then ((faultBase s reason).bump .migrationsAborted).counters
      else (faultBase s reason).counters := by
    rw [enterFault_eq, State.putStarvation]
    simp only [State.setDp, State.pauseScrubber_frame, abortMigration_counters, hmge]
  cases hc : s.mge.ctx.isSome <;> rw [hc] at habort
  · rw [State.counter_congr (t := faultBase s reason) habort, hbase, State.counter_bump]
    simp only [Bool.false_eq_true, and_false, or_false]
    split
    next h => rw [h]
    · rfl
  · rw [State.counter_congr (t := (faultBase s reason).bump .migrationsAborted) habort, State.counter_bump, hbase,
      hbase, State.counter_bump, State.counter_bump]
    cases k <;> simp

theorem pauseScrubber_running {m : ScrubMode} (h : s.psc.state = .running m) :
    s.pauseScrubber.psc = { s.psc with state := .paused m, timer := none, line := none } := by
  simp only [State.pauseScrubber, h]
  rfl

theorem pauseScrubber_stopped (h : ∀ m, s.psc.state ≠ .running m) : s.pauseScrubber = s := by
  unfold State.pauseScrubber
  split
  next m hm => exact absurd hm (h m)
  · rfl

theorem faultAborted_psc (s : State) (reason : FaultReason) :
    ((faultBase s reason).abortMigration .abortedDownstream true).psc = s.psc := by
  obtain ⟨-, -, -, -, hpsc, -, -⟩ := faultBase_blocks s reason
  rw [← hpsc]
  simp

theorem enterFault_psc_running {m : ScrubMode} (h : s.psc.state = .running m) (reason : FaultReason) :
    (s.enterFault reason).psc = { s.psc with state := .paused m, timer := none, line := none } := by
  have hpsc := faultAborted_psc s reason
  have hrunning : ((faultBase s reason).abortMigration .abortedDownstream true).psc.state = .running m := by
    rwa [hpsc]
  exact (pauseScrubber_running hrunning).trans (by rw [hpsc])

theorem enterFault_psc_stopped (h : ∀ m, s.psc.state ≠ .running m) (reason : FaultReason) :
    (s.enterFault reason).psc = s.psc := by
  have hpsc := faultAborted_psc s reason
  have hstopped : ∀ m, ((faultBase s reason).abortMigration .abortedDownstream true).psc.state ≠ .running m := by
    rwa [hpsc]
  exact (congrArg State.psc (pauseScrubber_stopped hstopped)).trans hpsc

/-- The tables and the engine take the abort of the fault (R85), and nothing else. -/
theorem enterFault_tables (s : State) (reason : FaultReason) :
    (s.enterFault reason).rmt = ((faultBase s reason).abortMigration .abortedDownstream true).rmt ∧
      (s.enterFault reason).spl = ((faultBase s reason).abortMigration .abortedDownstream true).spl ∧
      (s.enterFault reason).emn = ((faultBase s reason).abortMigration .abortedDownstream true).emn ∧
      (s.enterFault reason).mge = ((faultBase s reason).abortMigration .abortedDownstream true).mge := by
  rw [enterFault_eq, State.putStarvation]
  simp only [State.setDp, State.pauseScrubber_frame, and_self]

theorem enterFault_idle (h : s.mge.ctx = none) (reason : FaultReason) :
    (s.enterFault reason).mge = s.mge ∧ (s.enterFault reason).rmt = s.rmt ∧ (s.enterFault reason).spl = s.spl ∧
      (s.enterFault reason).emn = s.emn := by
  obtain ⟨hrmt, hspl, hemn, hmge, -, -, -⟩ := faultBase_blocks s reason
  obtain ⟨hrmt', hspl', hemn', hmge'⟩ := enterFault_tables s reason
  rw [hrmt', hspl', hemn', hmge', abortMigration_of_idle (hmge ▸ h), hrmt, hspl, hemn, hmge]
  exact ⟨rfl, rfl, rfl, rfl⟩

theorem enterFault_mge_busy (h : s.mge.ctx = some c) (reason : FaultReason) :
    (s.enterFault reason).mge = { s.mge with ctx := none, last := some (c.outcome .abortedDownstream) } := by
  obtain ⟨-, -, -, hmge, -, -, -⟩ := faultBase_blocks s reason
  rw [(enterFault_tables s reason).2.2.2, (abortMigration_tables (hmge ▸ h) .abortedDownstream true).2.2.2, hmge]

theorem enterFault_rmt_busy {e : RemapEntry} (h : s.mge.ctx = some c) (he : s.rmt[c.slot] = some e)
    (reason : FaultReason) : (s.enterFault reason).rmt = s.rmt.set c.slot (rolledBack e) := by
  obtain ⟨hrmt, -, -, hmge, -, -, -⟩ := faultBase_blocks s reason
  rw [(enterFault_tables s reason).1, (abortMigration_tables (hmge ▸ h) .abortedDownstream true).1,
    rollbackSlot_table (hrmt ▸ he), hrmt]

theorem enterFault_aborted {cur : Option (Fin 16)} (h : s.mge.ctx = some c)
    (he : s.rmt[c.slot] = some ⟨c.home, .moving cur c.target⟩) (reason : FaultReason) :
    Aborted s (s.enterFault reason) c cur .abortedDownstream := by
  obtain ⟨hrmt, hspl, hemn, hmge, -, -, -⟩ := faultBase_blocks s reason
  obtain ⟨hrmt', hspl', hemn', hmge'⟩ := enterFault_tables s reason
  have habort := abortMigration_aborted (s := faultBase s reason) (hmge ▸ h) (hrmt ▸ he) .abortedDownstream true
  unfold Aborted at habort ⊢
  rwa [hrmt', hspl', hemn', hmge', ← hrmt, ← hspl, ← hemn, ← hmge]

theorem enterFault_queue (s : State) (reason : FaultReason) :
    (s.enterFault reason).mge.ctx = none ∧ (s.enterFault reason).mge.queue = s.mge.queue := by
  cases hc : s.mge.ctx with
  | none =>
    rw [(enterFault_idle hc reason).1]
    exact ⟨hc, rfl⟩
  | some c =>
    rw [enterFault_mge_busy hc reason]
    exact ⟨rfl, rfl⟩

/-! ### The three causes -/

theorem takeAnswer_misfit {msg : List Byte}
    (h : ∀ e, s.dp.fifo.head? = some e → fitAnswer e.kind msg = none) : s.takeAnswer msg = s.enterFault .badAnswer := by
  unfold State.takeAnswer
  split
  · rfl
  next e rest hf => rw [h e (by rw [hf]; rfl)]

/-- Settles O40: the flush, the answers, the abort and the pause, each of its own block. -/
theorem faultSettlesEveryOwner : Obligations.FaultSettlesEveryOwner := by
  unfold Obligations.FaultSettlesEveryOwner
  intro s c reason hl hcause
  obtain ⟨p, hp, hup, hexec⟩ : ∃ p : Pins,
      p = { s.pins with dpReady := if c = .dpReadyFall then false else s.pins.dpReady } ∧ p.upRstN = s.pins.upRstN ∧
        exec c s = .next ({ s with pins := p }.enterFault reason) := by
    rcases hcause with ⟨rfl, hd, rfl⟩ | ⟨rfl, rfl⟩ | ⟨msg, rfl, rfl, hm⟩
    · exact ⟨s.pins, rfl, rfl, congrArg Host.Outcome.next (if_pos ⟨hl, hd⟩)⟩
    · exact ⟨{ s.pins with dpReady := false }, rfl, rfl, congrArg Host.Outcome.next (if_pos hl)⟩
    · exact ⟨s.pins, rfl, rfl, congrArg Host.Outcome.next ((if_pos hl).trans (takeAnswer_misfit hm))⟩
  have hport := (enterFault_up { s with pins := p } reason).trans (failHost_up _)
  refine ⟨_, s.failedTags, hexec, enterFault_dp _ _, ?_, (nodup_firstTags _).filter _, fun tag => mem_failedTags_iff,
    ?_, (enterFault_wires _ _).trans (failHost_wires _), fun tag => ?_, ?_, ?_, fun h => ?_, fun h hpin hforce => ?_,
    enterFault_alc _ _, ?_, ?_, fun k hk hk' => ?_, (enterFault_queue _ _).1, (enterFault_queue _ _).2, fun h => ?_,
    fun m hm => ?_, fun m e hm he => enterFault_rmt_busy (s := { s with pins := p }) hm he reason,
    fun m cur hm he => enterFault_aborted (s := { s with pins := p }) hm he reason,
    fun m hm => enterFault_psc_running (s := { s with pins := p }) hm reason,
    fun h => enterFault_psc_stopped (s := { s with pins := p }) h reason, by simp, by simp, by simp, by simp⟩
  · simpa using hp
  · rintro order a b rfl ha - hlt
    exact idxOf_failedTags_lt ha hlt
  · rw [State.record, enterFault_up]
    exact failHost_record _ tag
  · rw [hport]
  · rw [hport]
  · rw [enterFault_up]
    exact failHost_link_up (s := { s with pins := p }) h
  · rw [enterFault_up]
    exact failHost_link_down (s := { s with pins := p }) h (hup.trans hpin) hforce
  · exact (enterFault_counter _ _ _).trans (if_pos (.inl rfl))
  · rw [enterFault_counter]
    simp only [reduceCtorEq, true_and, false_or]
    rfl
  · exact (enterFault_counter _ _ _).trans (if_neg (by simp [hk, hk']))
  · obtain ⟨hmge, htables⟩ := enterFault_idle (s := { s with pins := p }) h reason
    exact ⟨by rw [hmge], htables⟩
  · rw [enterFault_mge_busy (s := { s with pins := p }) hm]
    rfl

end Sys2Proof.Proofs
end

section
/-! SUPPORT. SPARE_RETIRE and SPARE_STATUS (R35, R37), decay expiries (R52, R53), the items (R171, R172), and the
statements O43, O44 and O56. -/

namespace Sys2Proof.Proofs

open Sys2Proof Sys2Proof.Machine Sys2Proof.Claims

variable {s t u : State} {c : Instr}

/-! ### Counts of spares (R29) -/

/-- One spare written: the count of a state follows what the spare was before. -/
theorem spareCount_putSpare (s : State) (b i : Fin 16) (x y : SpareState) :
    (s.putSpare b i x).spareCount b y + (s.spare b i == y).toNat = s.spareCount b y + (x == y).toNat := by
  have h := countP_update (p := fun j => s.spare b j == y) (q := fun j => (s.putSpare b i x).spare b j == y) (a := i)
    (fun j hj => by rw [State.spare_putSpare, if_neg fun h => hj h.2]) (List.nodup_finRange 16) (List.mem_finRange i)
  rwa [show ((s.putSpare b i x).spare b i == y) = (x == y) by rw [State.spare_putSpare, if_pos ⟨rfl, rfl⟩]] at h

theorem countP_spareStates {α : Type} (f : α → SpareState) (l : List α) :
    l.countP (fun i => f i == .free) + l.countP (fun i => f i == .assigned) + l.countP (fun i => f i == .retired) =
      l.length := by
  induction l with
  | nil => rfl
  | cons a l ih =>
    simp only [List.countP_cons, List.length_cons]
    cases f a <;> simp <;> omega

theorem spareCount_sum (s : State) (b : Fin 16) :
    s.spareCount b .free + s.spareCount b .assigned + s.spareCount b .retired = 16 :=
  (countP_spareStates (s.spare b) (List.finRange 16)).trans (List.length_finRange ..)

/-! ### SPARE_RETIRE -/

theorem exec_spareRetire {b i : Byte} {r : Reply} (hs : Heard s) (hb : spareRetireBody [b, i] s = (r, t)) :
    exec (.spareRetire [b, i]) s = .next (t.answer 5#8 [5#8, b, i] r) :=
  congrArg Host.Outcome.next (runAction_eq (a := .spareRetire) hs rfl hb)

theorem spareRetireBody_range {b i : Byte} (h : 15 < b.toNat ∨ 15 < i.toNat) :
    spareRetireBody [b, i] s = (.refused .range, s) := by
  have hargs : fin16Arg (arg [b, i] 0) = none ∨ fin16Arg (arg [b, i] 1) = none :=
    h.imp fin16Arg_of_large fin16Arg_of_large
  unfold spareRetireBody
  split
  next hb hi => exact absurd hargs (by simp [hb, hi])
  · rfl

theorem spareRetireBody_bytes (b i : Fin 16) (s : State) :
    spareRetireBody [byte b.val, byte i.val] s = spareRetire s b i := by
  have hb : fin16Arg (arg [byte b.val, byte i.val] 0) = some b := fin16Arg_byte b
  have hi : fin16Arg (arg [byte b.val, byte i.val] 1) = some i := fin16Arg_byte i
  simp only [spareRetireBody, hb, hi]

theorem spareRetire_refused {b i : Fin 16} (h : s.up.gate ≠ .closed ∨ s.spare b i ≠ .free) :
    spareRetire s b i = (.refused .state, s) := by
  unfold spareRetire
  split
  · rfl
  next hg => exact if_pos (h.resolve_left hg)

theorem spareRetire_done {b i : Fin 16} (hg : s.up.gate = .closed) (hf : s.spare b i = .free) :
    spareRetire s b i =
      (.done [byte b.val, byte (s.spareCount b .free - 1), byte (s.spareCount b .assigned),
          byte (s.spareCount b .retired + 1)],
        s.putSpare b i .retired) := by
  have hfree := spareCount_putSpare s b i .retired .free
  have hassigned := spareCount_putSpare s b i .retired .assigned
  have hretired := spareCount_putSpare s b i .retired .retired
  rw [hf] at hfree hassigned hretired
  have hfree' : (s.putSpare b i .retired).spareCount b .free = s.spareCount b .free - 1 := Nat.eq_sub_of_add_eq hfree
  have hassigned' : (s.putSpare b i .retired).spareCount b .assigned = s.spareCount b .assigned := hassigned
  have hretired' : (s.putSpare b i .retired).spareCount b .retired = s.spareCount b .retired + 1 := hretired
  rw [spareRetire, if_neg (not_not.mpr hg), if_neg (not_not.mpr hf)]
  dsimp only
  rw [hfree', hassigned', hretired']

/-! ### SPARE_STATUS -/

/-- The `i`th report of a sequence of reports of four bytes. -/
theorem report_of_flatMap {α : Type} {f : α → List Byte} (hf : ∀ a, (f a).length = 4) (l : List α) (i : Nat)
    (h : i < l.length) : ((l.flatMap f).drop (4 * i)).take 4 = f l[i] := by
  induction l generalizing i with
  | nil => exact absurd h (Nat.not_lt_zero i)
  | cons a l ih =>
    cases i with
    | zero =>
      rw [List.flatMap_cons, Nat.mul_zero, List.drop_zero, List.take_append_of_le_length (hf a).ge,
        List.take_of_length_le (hf a).le]
      rfl
    | succ i =>
      have hdrop : 4 * (i + 1) = (f a).length + 4 * i := by rw [hf]; omega
      rw [List.flatMap_cons, hdrop, List.drop_length_add_append]
      exact ih i (Nat.lt_of_succ_lt_succ h)

theorem exec_spareStatus (hs : Heard s) :
    exec (.spareStatus []) s =
      .next (((s.setSpl { s.spl with changed := Vector.replicate 16 false }).clearCause .spareLow).answer 4#8 [4#8]
        (.done ((List.finRange 16).flatMap s.bankReport))) :=
  congrArg Host.Outcome.next (runAction_eq (a := .spareStatus) hs rfl rfl)

/-- Settles O43: the checks of Table 2-3, and the sixteen reports of four bytes. -/
theorem sparesAreRetiredAndReported : Obligations.SparesAreRetiredAndReported := by
  unfold Obligations.SparesAreRetiredAndReported
  refine ⟨fun s hs => ⟨fun b i h => exec_spareRetire hs (spareRetireBody_range h), fun b i sent hsent => ?_⟩,
    fun s hs => ⟨(List.finRange 16).flatMap s.bankReport, ?_, ?_, fun b => ⟨spareCount_sum s b, ?_⟩⟩⟩
  · subst hsent
    exact ⟨fun h => exec_spareRetire hs ((spareRetireBody_bytes b i s).trans (spareRetire_refused h)),
      fun hg hf => exec_spareRetire hs ((spareRetireBody_bytes b i s).trans (spareRetire_done hg hf))⟩
  · rw [exec_spareStatus hs, clearCause_eq]
    rfl
  · simp [List.length_flatMap, State.bankReport]
  · have hreport := report_of_flatMap (f := s.bankReport) (fun _ => rfl) (List.finRange 16) b.val (by simp)
    rw [hreport, List.getElem_finRange]
    rfl

/-! ### Decay expiries -/

theorem decayed_eq (l : List SuspectRecord) :
    (l.map SuspectRecord.decay).filter SuspectRecord.stays =
      l.filterMap fun r =>
        if r.pinned then some r
        else if r.ceCount / 2 = 0 ∧ r.ueCount = 0 then none
        else some { r with ceCount := r.ceCount / 2 } := by
  induction l with
  | nil => rfl
  | cons r l ih =>
    rw [List.map_cons, List.filter_cons, ih, List.filterMap_cons]
    by_cases hp : r.pinned = true
    · simp [SuspectRecord.decay, SuspectRecord.stays, hp]
    · by_cases hc : r.ceCount / 2 = 0 ∧ r.ueCount = 0
      · simp [SuspectRecord.decay, SuspectRecord.stays, hp, hc.1, hc.2]
      · have hcount : (r.ceCount / 2 != 0 || r.ueCount != 0) = true := by
          simpa only [bne, Bool.or_eq_true, Bool.not_eq_true', beq_eq_false_iff_ne, ← not_and_or] using hc
        have hstays : r.decay.stays = true := by
          simpa [SuspectRecord.decay, SuspectRecord.stays, hp] using hcount
        rw [if_pos hstays, if_neg hp, if_neg hc, SuspectRecord.decay, if_neg hp]

theorem exec_decayExpiry_waits (h : isDue s.emn.decay = false) : exec .decayExpiry s = .next s :=
  congrArg Host.Outcome.next (if_neg (by simp [h]))

theorem exec_decayExpiry_due (h : isDue s.emn.decay = true) :
    exec .decayExpiry s =
      .next ((s.putSuspects ((s.emn.suspects.map SuspectRecord.decay).filter SuspectRecord.stays)).startDecay) :=
  congrArg Host.Outcome.next (if_pos h)

theorem isDue_startTimer {k : Nat} (h : 0 < k) : isDue (startTimer k) = false :=
  decide_eq_false (Nat.not_le.mpr h)

theorem ticksPerSecond_pos : 0 < Config.ticksPerSecond := by
  unfold Config.ticksPerSecond
  norm_num

/-- A decay timer that has just started has not run its length. -/
theorem isDue_decayTimer (n : Nat) : isDue (decayTimer n) = false := by
  unfold decayTimer
  split
  · rfl
  next h => exact isDue_startTimer (Nat.mul_pos (Nat.pos_of_ne_zero h) ticksPerSecond_pos)

/-- R52: after the answer to a change of the operating interval no expiry waits. -/
theorem isDue_retimeDecay {old : Nat} (h : (s.retimeDecay old).operating.decayInterval ≠ old) :
    isDue (s.retimeDecay old).emn.decay = false := by
  have hoperating : (s.retimeDecay old).operating = s.operating := State.operating_congr (by simp)
  rw [hoperating] at h
  rw [retimeDecay_decay, if_neg h]
  exact isDue_decayTimer _

theorem isDue_decay_of_effect (he : Effect s c u) (h : u.operating.decayInterval ≠ s.operating.decayInterval) :
    isDue u.emn.decay = false := by
  have hkept : u.prf = s.prf → isDue u.emn.decay = false := fun hp =>
    absurd (congrArg Profile.decayInterval (State.operating_congr hp)) h
  cases he
  case writeField => exact isDue_retimeDecay h
  case writeOpsel => exact isDue_retimeDecay h
  case writeWrsel => exact absurd rfl h
  case powerOn => rfl
  case deviceReset =>
    obtain ⟨-, -, -, -, hemn, -⟩ := deviceResetValues_blocks _ _ _
    rw [hemn]
    rfl
  all_goals exact hkept (by simp [upstreamReset, afterGrant])

/-- Settles O44: the decay of R53, and the restart of R52 by every command that changes the operating interval. -/
theorem decayHalvesUnpinned : Obligations.DecayHalvesUnpinned := by
  unfold Obligations.DecayHalvesUnpinned
  refine ⟨fun s => ⟨fun h => ?_, exec_decayExpiry_waits⟩, fun c s t hexec h => ?_⟩
  · rw [exec_decayExpiry_due h, decayed_eq]
    rfl
  · obtain ⟨u, m, w, he, -, rfl⟩ := exec_reaches hexec
    exact exec_decayExpiry_waits (isDue_decay_of_effect (u := u) he h)

/-! ### Items -/

theorem readOnly_iff {n : Nat} {it : Item} (h : itemOf n = some it) : it.readOnly = true ↔ 32 ≤ n := by
  unfold itemOf at h
  split at h <;> cases h <;> decide

theorem arg32_be32 (n : Byte) (v : Word32) : arg32 (n :: be32 v) 1 = v := by
  simp only [arg32, arg16, arg, be32, List.getD_cons_succ, List.getD_cons_zero, Nat.reduceAdd, byte_toNat]
  refine BitVec.eq_of_toNat_eq ?_
  rw [BitVec.toNat_ofNat]
  omega

theorem exec_itemRead {n : Byte} {r : Reply} (hs : Heard s) (hb : itemReadBody [n] s = (r, t)) :
    exec (.itemRead [n]) s = .next (t.answer 25#8 [25#8, n] r) :=
  congrArg Host.Outcome.next (runAction_eq (a := .itemRead) hs rfl hb)

theorem exec_itemWrite {n : Byte} {v : Word32} {r : Reply} (hs : Heard s)
    (hb : itemWriteBody (n :: be32 v) s = (r, t)) :
    exec (.itemWrite (n :: be32 v)) s = .next (t.answer 26#8 (26#8 :: n :: be32 v) r) :=
  congrArg Host.Outcome.next (runAction_eq (a := .itemWrite) hs rfl hb)

theorem itemReadBody_unknown {n : Byte} (h : itemOf n.toNat = none) : itemReadBody [n] s = (.badArg, s) := by
  have harg : itemOf (arg [n] 0) = none := h
  simp only [itemReadBody, harg]

theorem itemReadBody_known {n : Byte} {it : Item} (h : itemOf n.toNat = some it) :
    itemReadBody [n] s = (.done (n :: be32 (s.itemValue it)), s) := by
  have harg : itemOf (arg [n] 0) = some it := h
  simp only [itemReadBody, harg]
  rfl

theorem itemWriteBody_unknown {n : Byte} {v : Word32} (h : itemOf n.toNat = none) :
    itemWriteBody (n :: be32 v) s = (.badArg, s) := by
  have harg : itemOf (arg (n :: be32 v) 0) = none := h
  simp only [itemWriteBody, harg]

theorem itemWriteBody_known {n : Byte} {v : Word32} {it : Item} (h : itemOf n.toNat = some it) :
    itemWriteBody (n :: be32 v) s = writeItem s n it v := by
  have harg : itemOf (arg (n :: be32 v) 0) = some it := h
  simp only [itemWriteBody, harg, arg32_be32]
  rfl

theorem writeItem_accepted {n : Byte} {v : Word32} {it : Item} (h : s.writeValue it v = some u) :
    writeItem s n it v = (.done (n :: be32 v), u) := by
  rw [writeItem, if_neg (by simp [readOnly_of_writeValue h]), h]
  simp only [itemValue_of_writeValue h]

/-- Settles O56: the three checks of R172 in order, and the value an item holds after a write. -/
theorem itemsAreReadAndWritten : Obligations.ItemsAreReadAndWritten := by
  unfold Obligations.ItemsAreReadAndWritten
  intro s n v sent hs hsent
  subst hsent
  refine ⟨fun h => ⟨exec_itemRead hs (itemReadBody_unknown h), exec_itemWrite hs (itemWriteBody_unknown h)⟩,
    fun it h => ⟨exec_itemRead hs (itemReadBody_known h), fun hro => ?_, fun hrw => ⟨fun hv => ?_, fun u hv => ?_⟩⟩⟩
  · exact exec_itemWrite hs ((itemWriteBody_known h).trans (if_pos ((readOnly_iff h).mpr hro)))
  · have hnot : ¬it.readOnly = true := fun hr => absurd ((readOnly_iff h).mp hr) (by omega)
    refine exec_itemWrite hs ((itemWriteBody_known h).trans ?_)
    rw [writeItem, if_neg hnot, hv]
  · exact ⟨itemValue_of_writeValue hv, exec_itemWrite hs ((itemWriteBody_known h).trans (writeItem_accepted hv))⟩

end Sys2Proof.Proofs
end

section
/-! SUPPORT. The start of a migration (R30, R31, R71 to R73, Table 4-3), and the statement O49. -/

namespace Sys2Proof.Proofs

open Sys2Proof Sys2Proof.Machine Sys2Proof.Claims

variable {s : State} {q : RepairRequest} {rest : List RepairRequest} {i : Fin 128} {cur : Option (Fin 16)} {nx : Fin 16}

/-! ### The request taken -/

theorem exec_migrationStart (hq : s.mge.queue = q :: rest) (hc : s.mge.ctx = none) (hl : s.dp.link = .up) :
    exec .migrationStart s = (s.putQueue rest).startRequest q := by
  change execMigrationStart s = _
  simp only [execMigrationStart, hq]
  exact if_pos ⟨hc, hl⟩

theorem exec_migrationStart_waits (h : s.mge.queue = [] ∨ s.mge.ctx ≠ none ∨ s.dp.link ≠ .up) :
    exec .migrationStart s = .next s := by
  change execMigrationStart s = _
  unfold execMigrationStart
  split
  · rfl
  next q rest hq =>
    refine if_neg fun ⟨hc, hl⟩ => ?_
    rcases h with h | h | h
    · exact absurd (hq.symm.trans h) nofun
    · exact h hc
    · exact h hl

/-- What a start finds of the row: the slot its entry will be in, and its current spare (R72, checks 1 and 2). -/
theorem startRequest_eq (h : cur = none ∧ s.slotOf q.home = none ∧ s.emptySlot = some i ∨
      ∃ c, cur = some c ∧ s.slotOf q.home = some i ∧ s.rmt[i] = some ⟨q.home, .active c⟩) :
    s.startRequest q = .next (s.startInSlot q i cur) := by
  rcases h with ⟨rfl, hs, he⟩ | ⟨c, rfl, hs, he⟩
  · simp only [State.startRequest, hs, he]
  · simp only [State.startRequest, hs, he, Option.map_some]

theorem startRequest_full (hs : s.slotOf q.home = none) (he : s.emptySlot = none) :
    s.startRequest q = .next (s.startFailure q .noEntry) := by
  simp only [State.startRequest, hs, he]

theorem startRequest_migrating {h : HomeRow} (hs : s.slotOf q.home = some i)
    (he : s.rmt[i] = some ⟨h, .moving cur nx⟩ ∨ s.rmt[i] = some ⟨h, .held cur nx⟩) :
    s.startRequest q = .fault .queuedRowInMigration := by
  rcases he with he | he <;> simp only [State.startRequest, hs, he, Option.map_some]

theorem exists_emptySlot (h : ∃ i : Fin 128, s.rmt[i] = none) : ∃ i, s.emptySlot = some i := by
  obtain ⟨i, hi⟩ := h
  refine Option.isSome_iff_exists.mp (List.find?_isSome.mpr ⟨i, List.mem_finRange i, ?_⟩)
  rw [hi]
  rfl

theorem lowestFree_eq_none {b : Fin 16} (h : ∀ j : Fin 16, s.spare b j ≠ .free) : s.lowestFree b = none :=
  List.find?_eq_none.mpr fun j _ => by simpa using h j

/-! ### Success and failure -/

/-- The watermark check after the allocation of a FREE spare (R31). -/
theorem checkWatermark_eq {b : Fin 16} (hf : s.spare b nx = .free) :
    (s.putSpare b nx .assigned).checkWatermark b =
      { s.putSpare b nx .assigned with
        alc := { s.alc with
                 spareLow := s.alc.spareLow || s.spareCount b .free - 1 < s.operating.spareWatermark } } := by
  have hcount : (s.putSpare b nx .assigned).spareCount b .free = s.spareCount b .free - 1 := by
    have hput := spareCount_putSpare s b nx .assigned .free
    rw [hf] at hput
    exact Nat.eq_sub_of_add_eq hput
  have hoperating : (s.putSpare b nx .assigned).operating = s.operating := rfl
  rw [State.checkWatermark, hcount, hoperating]
  split
  next h => simp [State.raise, State.setAlc, AlertController.put, h]
  next h =>
    simp only [decide_eq_false h, Bool.or_false]
    rfl

theorem startInSlot_begins (hf : s.spare q.home.bank nx = .free)
    (hlow : ∀ j : Fin 16, j < nx → s.spare q.home.bank j ≠ .free) :
    s.startInSlot q i cur =
      { s with
        rmt := s.rmt.set i (some ⟨q.home, .moving cur nx⟩)
        spl := { spares := s.spl.spares.set q.home.bank ((s.spl.spares[q.home.bank]).set nx .assigned)
                 changed := s.spl.changed.set q.home.bank true }
        alc := { s.alc with
                 spareLow := s.alc.spareLow ||
                   s.spareCount q.home.bank .free - 1 < s.operating.spareWatermark }
        mge := { s.mge with ctx := some (.begin i (s.currentLoc q.home) nx q) } } := by
  rw [State.startInSlot, State.lowestFree_eq hf hlow]
  dsimp only
  rw [State.beginMigration, checkWatermark_eq hf]
  rfl

theorem startInSlot_noSpare (h : ∀ j : Fin 16, s.spare q.home.bank j ≠ .free) :
    s.startInSlot q i cur = s.startFailure q .noSpare := by
  rw [State.startInSlot, lowestFree_eq_none h]

/-- The source of a migration: the current spare, or the row's own location (R11). -/
def startLoc (h : HomeRow) : Option (Fin 16) → Location
  | some c => spareLoc h.bank c
  | none => h.loc

theorem currentLoc_of_start (h : cur = none ∧ s.slotOf q.home = none ∨
      ∃ c, cur = some c ∧ s.slotOf q.home = some i ∧ s.rmt[i] = some ⟨q.home, .active c⟩) :
    s.currentLoc q.home = startLoc q.home cur := by
  rcases h with ⟨rfl, hs⟩ | ⟨c, rfl, hs, he⟩
  · exact currentLoc_of_no_entry (entryOf_of_slotOf_none hs)
  · exact currentLoc_of_current ((entryOf_of_slotOf hs).trans he) rfl

/-- Settles O49: the checks of Table 4-3 in their order, on the state with the request taken. -/
theorem migrationStartsOrFails : Obligations.MigrationStartsOrFails := by
  unfold Obligations.MigrationStartsOrFails
  refine ⟨fun s q rest i cur nx hq hc hl hrow hf hlow => ?_, fun s => ⟨exec_migrationStart_waits,
    fun q rest hq hc hl => ⟨fun o ho => ?_, fun i h' cur nx hs he => ?_⟩⟩⟩
  · have hstart : (s.putQueue rest).startRequest q = .next ((s.putQueue rest).startInSlot q i cur) := by
      refine startRequest_eq (hrow.imp (fun ⟨hcur, hs, he, hmin⟩ => ⟨hcur, hs, ?_⟩) id)
      exact State.emptySlot_eq he hmin
    have hloc := currentLoc_of_start (hrow.imp (fun ⟨hcur, hs, _⟩ => ⟨hcur, hs⟩) id)
    rw [exec_migrationStart hq hc hl, hstart, startInSlot_begins (s := s.putQueue rest) hf hlow]
    have hloc' : (s.putQueue rest).currentLoc q.home = s.currentLoc q.home := rfl
    rw [hloc', hloc]
    cases cur <;> rfl
  · rw [exec_migrationStart hq hc hl]
    have hfail : (s.putQueue rest).startRequest q = .next ((s.putQueue rest).startFailure q o) := by
      rcases ho with ⟨rfl, hs, hfull⟩ | ⟨rfl, hrow, hspares⟩
      · exact startRequest_full hs (emptySlot_eq_none hfull)
      · have hstart : ∃ i cur, (s.putQueue rest).startRequest q = .next ((s.putQueue rest).startInSlot q i cur) := by
          rcases hrow with ⟨hs, hempty⟩ | ⟨i, c, hs, he⟩
          · obtain ⟨i, hi⟩ := exists_emptySlot (s := s.putQueue rest) hempty
            exact ⟨i, none, startRequest_eq (.inl ⟨rfl, hs, hi⟩)⟩
          · exact ⟨i, some c, startRequest_eq (.inr ⟨c, rfl, hs, he⟩)⟩
        obtain ⟨i, cur, hstart⟩ := hstart
        rw [hstart, startInSlot_noSpare (s := s.putQueue rest) hspares]
    rw [hfail, ← hc]
    rfl
  · rw [exec_migrationStart hq hc hl]
    exact startRequest_migrating hs he

end Sys2Proof.Proofs
end

section
/-! SUPPORT. Resets: the power-on values (R174), the rollbacks of a device reset (R175, R92, R95), the end of a reset
(R147), and the statements O58, O59 and O60. -/

namespace Sys2Proof.Proofs

open Sys2Proof Sys2Proof.Machine Sys2Proof.Claims

variable {s u v : State} {i : Fin 128} {e : RemapEntry} {cur : Option (Fin 16)} {nx : Fin 16} {S : Fin 128 → Prop}

/-! ### Power-on reset -/

theorem abandoned_eq (f : FrameState) : f.abandoned = if f = .idle then .idle else .ignored := by
  cases f <;> rfl

/-- Settles O58: the power-on values, block by block. -/
theorem powerOnResetLeavesPowerOnValues : Obligations.PowerOnResetLeavesPowerOnValues := by
  unfold Obligations.PowerOnResetLeavesPowerOnValues
  refine fun s => ⟨s.powerOnValues, rfl, rfl, rfl, rfl, rfl, fun i => ?_, fun b i => ?_, fun b => ?_, rfl, rfl, rfl,
    fun i => ?_, rfl, rfl, rfl, rfl, fun tag => ?_, rfl, rfl, rfl, rfl, rfl, ?_, fun k => ?_⟩
  · simp [State.powerOnValues, State.reset]
  · simp [State.powerOnValues, State.reset, State.spare]
  · simp [State.powerOnValues, State.reset]
  · simp [State.powerOnValues, State.reset, ProfileBlock.default, Profile.default]
  · simp [State.powerOnValues, State.reset, State.record, UpstreamPort.powerOn]
  · rw [State.powerOnValues, abandoned_eq]
    rfl
  · simp [State.powerOnValues, State.reset, State.counter]

/-! ### One rollback -/

theorem next_of_migration (hm : e.st.migration = some (cur, nx)) : e.st.next = some nx := by
  obtain ⟨home, st⟩ := e
  cases st with
  | active => exact absurd hm nofun
  | moving cur' nx' | held cur' nx' =>
    obtain ⟨rfl, rfl⟩ : cur' = cur ∧ nx' = nx := by simpa [EntryState.migration] using hm
    rfl

theorem next_of_settled (hm : e.st.migration = none) : e.st.next = none := by
  obtain ⟨home, st⟩ := e
  cases st with
  | active => rfl
  | moving | held => exact absurd hm nofun

theorem rolledBack_of_settled (hm : e.st.migration = none) : rolledBack e = some e := by
  obtain ⟨home, st⟩ := e
  cases st with
  | active => rfl
  | moving | held => exact absurd hm nofun

/-- What a rollback leaves is not in migration. -/
theorem settled_of_rolledBack {e' : RemapEntry} (h : rolledBack e = some e') : e'.st.migration = none := by
  obtain ⟨home, st⟩ := e
  cases st with
  | active => obtain rfl := Option.some.inj h; rfl
  | moving cur' nx' | held cur' nx' =>
    obtain ⟨c, -, rfl⟩ := Option.map_eq_some_iff.mp h
    rfl

theorem rollbackSlot_changed (hi : s.rmt[i] = some e) (hm : e.st.migration = some (cur, nx)) (b : Fin 16) :
    (s.rollbackSlot i).spl.changed[b] = true ↔ s.spl.changed[b] = true ∨ e.home.bank = b := by
  rw [rollbackSlot_eq hi hm]
  by_cases h : e.home.bank = b
  · simp [h]
  · have hval : ¬e.home.bank.val = b.val := fun hv => h (Fin.ext hv)
    simp [h, hval]

/-- `u` is `s` with the entries of the slots in `S` rolled back (R21, R33, R56). -/
structure RolledBack (s : State) (S : Fin 128 → Prop) (u : State) : Prop where
  done : ∀ j, S j → u.rmt[j] = (s.rmt[j]).bind rolledBack
  open' : ∀ j, ¬S j → u.rmt[j] = s.rmt[j]
  freed : ∀ b x, (∃ j, S j ∧ ∃ e ∈ s.rmt[j], e.home.bank = b ∧ e.st.next = some x) → u.spare b x = .free
  kept : ∀ b x, (∀ j, S j → ∀ e ∈ s.rmt[j], ¬(e.home.bank = b ∧ e.st.next = some x)) → u.spare b x = s.spare b x
  changed : ∀ b : Fin 16, u.spl.changed[b] = true ↔
    s.spl.changed[b] = true ∨ ∃ j, S j ∧ ∃ e ∈ s.rmt[j], e.home.bank = b ∧ e.st.next ≠ none
  length : u.emn.suspects.length = s.emn.suspects.length
  unpinned : ∀ (n : Nat) (r : SuspectRecord), s.emn.suspects[n]? = some r →
    (∃ j, S j ∧ ∃ e ∈ s.rmt[j], e.home = r.home ∧ e.st.next ≠ none) →
      u.emn.suspects[n]? = some { r with pinned := false }
  pinned : ∀ (n : Nat) (r : SuspectRecord), s.emn.suspects[n]? = some r →
    (∀ j, S j → ∀ e ∈ s.rmt[j], e.home = r.home → e.st.next = none) → u.emn.suspects[n]? = some r

theorem RolledBack.refl (s : State) : RolledBack s (fun _ => False) s where
  done := fun _ h => h.elim
  open' := fun _ _ => rfl
  freed := fun _ _ ⟨_, h, _⟩ => h.elim
  kept := fun _ _ _ => rfl
  changed := fun _ => ⟨.inl, fun h => h.elim id fun ⟨_, h, _⟩ => h.elim⟩
  length := rfl
  unpinned := fun _ _ _ ⟨_, h, _⟩ => h.elim
  pinned := fun _ _ h _ => h

theorem RolledBack.congr (h : RolledBack s S u) (hr : v.rmt = u.rmt) (hp : v.spl = u.spl)
    (he : v.emn.suspects = u.emn.suspects) : RolledBack s S v where
  done := by rw [hr]; exact h.done
  open' := by rw [hr]; exact h.open'
  freed := fun b x hx => (State.spare_congr hp b x).trans (h.freed b x hx)
  kept := fun b x hx => (State.spare_congr hp b x).trans (h.kept b x hx)
  changed := by rw [hp]; exact h.changed
  length := by rw [he]; exact h.length
  unpinned := by rw [he]; exact h.unpinned
  pinned := by rw [he]; exact h.pinned

/-- A slot whose entry is not in migration adds nothing. -/
theorem RolledBack.settled (h : RolledBack s S u) (hi : ∀ e, s.rmt[i] = some e → e.st.migration = none) (hS : ¬S i) :
    RolledBack s (fun j => S j ∨ j = i) u := by
  have hnext : ∀ e ∈ s.rmt[i], e.st.next = none := fun e he => next_of_settled (hi e he)
  refine ⟨fun j hj => ?_, fun j hj => h.open' j fun h' => hj (.inl h'), fun b x => ?_, fun b x hx => ?_, fun b => ?_,
    h.length, fun n r hr => ?_, fun n r hr hx => ?_⟩
  · rcases hj with hj | rfl
    · exact h.done j hj
    · rw [h.open' j hS]
      cases he : s.rmt[j] with
      | none => rfl
      | some e => exact (rolledBack_of_settled (hi e he)).symm
  · rintro ⟨j, hj | rfl, e, he, hb, hn⟩
    · exact h.freed b x ⟨j, hj, e, he, hb, hn⟩
    · exact absurd ((hnext e he).symm.trans hn) nofun
  · exact h.kept b x fun j hj => hx j (.inl hj)
  · rw [h.changed]
    refine or_congr_right ⟨fun ⟨j, hj, hx⟩ => ⟨j, .inl hj, hx⟩, ?_⟩
    rintro ⟨j, hj | rfl, e, he, hb, hn⟩
    · exact ⟨j, hj, e, he, hb, hn⟩
    · exact absurd (hnext e he) hn
  · rintro ⟨j, hj | rfl, e, he, hb, hn⟩
    · exact h.unpinned n r hr ⟨j, hj, e, he, hb, hn⟩
    · exact absurd (hnext e he) hn
  · exact h.pinned n r hr fun j hj => hx j (.inl hj)

/-- A slot in migration is rolled back. -/
theorem RolledBack.migrating (h : RolledBack s S u) (hi : s.rmt[i] = some e) (hm : e.st.migration = some (cur, nx))
    (hS : ¬S i) : RolledBack s (fun j => S j ∨ j = i) (u.rollbackSlot i) := by
  have hi' : u.rmt[i] = some e := (h.open' i hS).trans hi
  have hnext := next_of_migration hm
  have hsuspects : (u.rollbackSlot i).emn.suspects =
      u.emn.suspects.map fun r => if r.home = e.home then { r with pinned := false } else r := by
    rw [rollbackSlot_eq hi' hm]
  refine ⟨fun j hj => ?_, fun j hj => ?_, fun b x hx => ?_, fun b x hx => ?_, fun b => ?_, ?_, fun n r hr hx => ?_,
    fun n r hr hx => ?_⟩
  · rw [rollbackSlot_rmt hi' hm]
    split
    next hji =>
      rw [hji, hi]
      exact (rolledBack_of_migration hm).symm
    next hji => exact h.done j (hj.resolve_right hji)
  · obtain ⟨hj, hji⟩ := not_or.mp hj
    rw [rollbackSlot_rmt hi' hm, if_neg hji]
    exact h.open' j hj
  · rw [rollbackSlot_spare hi' hm]
    split
    · rfl
    next hne =>
      obtain ⟨j, hj | rfl, e', he', hb, hn⟩ := hx
      · exact h.freed b x ⟨j, hj, e', he', hb, hn⟩
      · obtain rfl := Option.some.inj (hi.symm.trans he')
        exact absurd ⟨hb.symm, (Option.some.inj (hnext.symm.trans hn)).symm⟩ hne
  · rw [rollbackSlot_spare hi' hm, if_neg fun ⟨hb, hn⟩ => hx i (.inr rfl) e hi ⟨hb.symm, hn ▸ hnext⟩]
    exact h.kept b x fun j hj => hx j (.inl hj)
  · rw [rollbackSlot_changed hi' hm, h.changed, or_assoc]
    refine or_congr_right ⟨?_, ?_⟩
    · rintro (⟨j, hj, hx⟩ | hb)
      · exact ⟨j, .inl hj, hx⟩
      · exact ⟨i, .inr rfl, e, hi, hb, by simp [hnext]⟩
    · rintro ⟨j, hj | rfl, e', he', hb, hn⟩
      · exact .inl ⟨j, hj, e', he', hb, hn⟩
      · obtain rfl := Option.some.inj (hi.symm.trans he')
        exact .inr hb
  · rw [hsuspects, List.length_map, h.length]
  · rw [hsuspects, List.getElem?_map]
    by_cases hprev : ∃ j, S j ∧ ∃ e ∈ s.rmt[j], e.home = r.home ∧ e.st.next ≠ none
    · rw [h.unpinned n r hr hprev, Option.map_some]
      split <;> rfl
    · have hhome : r.home = e.home := by
        obtain ⟨j, hj | rfl, e', he', hh, hn⟩ := hx
        · exact absurd ⟨j, hj, e', he', hh, hn⟩ hprev
        · obtain rfl := Option.some.inj (hi.symm.trans he')
          exact hh.symm
      have hkept : ∀ j, S j → ∀ e ∈ s.rmt[j], e.home = r.home → e.st.next = none := fun j hj e' he' hh =>
        Classical.byContradiction fun hn => hprev ⟨j, hj, e', he', hh, hn⟩
      rw [h.pinned n r hr hkept, Option.map_some, if_pos hhome]
  · have hne : e.home ≠ r.home := fun hh => absurd (hnext.symm.trans (hx i (.inr rfl) e hi hh)) nofun
    rw [hsuspects, List.getElem?_map, h.pinned n r hr fun j hj => hx j (.inl hj), Option.map_some,
      if_neg fun hh => hne hh.symm]

theorem RolledBack.rollbackSlot (h : RolledBack s S u) (i : Fin 128) :
    RolledBack s (fun j => S j ∨ j = i) (u.rollbackSlot i) := by
  by_cases hS : S i
  · have hsame : (fun j => S j ∨ j = i) = S := funext fun j => propext ⟨fun hj => hj.elim id fun hji => hji ▸ hS, .inl⟩
    have hsettled : ∀ e, u.rmt[i] = some e → e.st.migration = none := fun e he => by
      rw [h.done i hS] at he
      obtain ⟨e₀, -, hback⟩ := Option.bind_eq_some_iff.mp he
      exact settled_of_rolledBack hback
    rw [rollbackSlot_of_settled hsettled, hsame]
    exact h
  · rcases migration_or_settled s i with ⟨e, cur, nx, hi, hm⟩ | hi
    · exact h.migrating hi hm hS
    · rw [rollbackSlot_of_settled fun e he => hi e ((h.open' i hS).symm.trans he)]
      exact h.settled hi hS

/-! ### The rollbacks of a device reset (R95) -/

/-- A slot whose entry is MOVING or HELD. -/
def movesAt (s : State) (i : Fin 128) : Bool := (s.rmt[i]).any fun e => e.st.isMigrating

theorem isMigrating_eq_false_iff_settled (st : EntryState) : st.isMigrating = false ↔ st.migration = none := by
  cases st <;> simp [EntryState.isMigrating, EntryState.migration]

theorem movesAt_eq_false_iff : movesAt s i = false ↔ ∀ e, s.rmt[i] = some e → e.st.migration = none := by
  rw [movesAt, Option.any_eq_false]
  exact forall_congr' fun e => imp_congr_right fun _ => isMigrating_eq_false_iff_settled e.st

theorem resetSlot_moves (h : movesAt s i = true) : s.resetSlot i = (s.rollbackSlot i).bump .migrationsAborted :=
  if_pos h

theorem resetSlot_settled (h : movesAt s i = false) : s.resetSlot i = s :=
  if_neg (Bool.eq_false_iff.mp h)

theorem RolledBack.resetSlot (h : RolledBack s S u) (i : Fin 128) :
    RolledBack s (fun j => S j ∨ j = i) (u.resetSlot i) := by
  have hback := h.rollbackSlot i
  cases hm : movesAt u i with
  | true =>
    rw [resetSlot_moves hm]
    exact hback.congr rfl rfl rfl
  | false =>
    rw [rollbackSlot_of_settled (movesAt_eq_false_iff.mp hm)] at hback
    rwa [resetSlot_settled hm]

theorem RolledBack.resetSlots (l : List (Fin 128)) (h : RolledBack s S u) :
    RolledBack s (fun j => S j ∨ j ∈ l) (l.foldl State.resetSlot u) := by
  induction l generalizing S u with
  | nil => simpa using h
  | cons i l ih =>
    have hset : (fun j => S j ∨ j ∈ i :: l) = fun j => (S j ∨ j = i) ∨ j ∈ l := by
      funext j
      rw [List.mem_cons, or_assoc]
    rw [hset]
    exact ih (h.resetSlot i)

theorem rolledBack_abortMigration (s : State) : ∃ S, RolledBack s S (s.abortMigration .abortedReset false) := by
  cases hc : s.mge.ctx with
  | none => exact ⟨_, by rw [abortMigration_of_idle hc]; exact RolledBack.refl s⟩
  | some c =>
    obtain ⟨hrmt, hspl, hemn, -⟩ := abortMigration_tables hc .abortedReset false
    exact ⟨_, ((RolledBack.refl s).rollbackSlot c.slot).congr hrmt hspl (by rw [hemn])⟩

/-- A device reset rolls every slot back. -/
theorem rolledBack_resetTables (s : State) : RolledBack s (fun _ => True) (resetTables s) := by
  obtain ⟨S, h⟩ := rolledBack_abortMigration s
  have hall : (fun j => S j ∨ j ∈ List.finRange 128) = fun _ => True :=
    funext fun j => eq_true (.inr (List.mem_finRange j))
  exact hall ▸ h.resetSlots (List.finRange 128)

theorem resetTables_emn (s : State) :
    (resetTables s).emn = { s.emn with suspects := (resetTables s).emn.suspects } := by
  have hroll : ∀ (u : State) (i : Fin 128), u.emn = { s.emn with suspects := u.emn.suspects } →
      (u.rollbackSlot i).emn = { s.emn with suspects := (u.rollbackSlot i).emn.suspects } := fun u i h =>
    (rollbackSlot_emn u i).trans (by rw [h])
  unfold resetTables
  refine resetEntries_induct (P := fun u => u.emn = { s.emn with suspects := u.emn.suspects }) hroll
    (fun u v _ _ he h => by rw [he]; exact h) ?_
  exact abortMigration_induct (P := fun u => u.emn = { s.emn with suspects := u.emn.suspects }) hroll
    (fun u v _ _ he h => by rw [he]; exact h) _ _ rfl

theorem resetTables_mge (s : State) : (resetTables s).mge = (s.abortMigration .abortedReset false).mge := by
  simp [resetTables]

/-! ### The count of the rollbacks (R92) -/

theorem resetSlot_counter (s : State) (i : Fin 128) (k : Counter) :
    (s.resetSlot i).counter k = if k = .migrationsAborted ∧ movesAt s i = true then satInc (s.counter k)
      else s.counter k := by
  cases hm : movesAt s i with
  | true =>
    have hcounters : (s.rollbackSlot i).counters = s.counters := by simp
    rw [resetSlot_moves hm, State.counter_bump, State.counter_congr hcounters, State.counter_congr hcounters]
    by_cases hk : k = .migrationsAborted
    · subst hk
      simp
    · simp [hk]
  | false =>
    rw [resetSlot_settled hm]
    simp

theorem resetSlots_counter (l : List (Fin 128)) {k : Counter} (hk : k ≠ .migrationsAborted) (s : State) :
    (l.foldl State.resetSlot s).counter k = s.counter k := by
  induction l generalizing s with
  | nil => rfl
  | cons i l ih => rw [List.foldl_cons, ih, resetSlot_counter, if_neg fun h => hk h.1]

/-- The rollback of one slot leaves the others in or out of migration. -/
theorem movesAt_resetSlot {j : Fin 128} (hj : j ≠ i) : movesAt (s.resetSlot i) j = movesAt s j := by
  cases hm : movesAt s i with
  | false => rw [resetSlot_settled hm]
  | true =>
    rw [resetSlot_moves hm]
    rcases migration_or_settled s i with ⟨e, cur, nx, hi, he⟩ | hi
    · have hrmt := rollbackSlot_rmt hi he j
      rw [if_neg hj] at hrmt
      exact congrArg (Option.any fun e => e.st.isMigrating) hrmt
    · rw [rollbackSlot_of_settled hi]
      rfl

theorem resetSlots_aborted {l : List (Fin 128)} (hl : l.Nodup) (s : State) :
    (l.foldl State.resetSlot s).counter .migrationsAborted =
      satInc^[l.countP (movesAt s)] (s.counter .migrationsAborted) := by
  induction l generalizing s with
  | nil => rfl
  | cons i l ih =>
    obtain ⟨hi, hl'⟩ := List.nodup_cons.mp hl
    have hrest : l.countP (movesAt (s.resetSlot i)) = l.countP (movesAt s) := List.countP_congr fun j hj => by
      have hji : j ≠ i := by
        rintro rfl
        exact hi hj
      rw [movesAt_resetSlot hji]
    rw [List.foldl_cons, ih hl', hrest, resetSlot_counter, List.countP_cons]
    cases movesAt s i <;> simp [Function.iterate_succ_apply]

theorem resetTables_eq (s : State) :
    resetTables s = (List.finRange 128).foldl State.resetSlot (s.abortMigration .abortedReset false) := rfl

theorem resetTables_counter (s : State) {k : Counter} (hk : k ≠ .migrationsAborted) :
    (resetTables s).counter k = s.counter k := by
  rw [resetTables_eq, resetSlots_counter _ hk]
  cases hc : s.mge.ctx with
  | none => rw [abortMigration_of_idle hc]
  | some c =>
    have hcounters := abortMigration_counters s .abortedReset false
    rw [hc] at hcounters
    exact (State.counter_congr hcounters k).trans ((State.counter_bump ..).trans (if_neg hk))

/-- The abort takes one slot out of migration and counts it. -/
theorem resetTables_aborted (s : State) (hs : RepairCoherent s) :
    (resetTables s).counter .migrationsAborted =
      satInc^[(List.finRange 128).countP (movesAt s)] (s.counter .migrationsAborted) := by
  rw [resetTables_eq, resetSlots_aborted (List.nodup_finRange 128)]
  cases hc : s.mge.ctx with
  | none => rw [abortMigration_of_idle hc]
  | some c =>
    obtain ⟨cur, he⟩ := entry_of_ctx hs.2.1 hc
    have hm : (⟨c.home, .moving cur c.target⟩ : RemapEntry).st.migration = some (cur, c.target) := rfl
    have hrmt : ∀ j, (s.abortMigration .abortedReset false).rmt[j] =
        if j = c.slot then cur.map fun x => ⟨c.home, .active x⟩ else s.rmt[j] := fun j => by
      rw [← rollbackSlot_rmt he hm]
      exact congrArg (fun t : Vector (Option RemapEntry) 128 => t[j])
        (abortMigration_tables hc .abortedReset false).1
    have hbefore : movesAt s c.slot = true := by rw [movesAt, he]; rfl
    have hafter : movesAt (s.abortMigration .abortedReset false) c.slot = false := by
      rw [movesAt, hrmt, if_pos rfl]
      cases cur <;> rfl
    have hcount := countP_update (p := movesAt s) (q := movesAt (s.abortMigration .abortedReset false)) (a := c.slot)
      (fun j hj => by rw [movesAt, hrmt, if_neg hj]; rfl) (List.nodup_finRange 128) (List.mem_finRange c.slot)
    rw [hbefore, hafter] at hcount
    have hcounters := abortMigration_counters s .abortedReset false
    rw [hc] at hcounters
    have hcounter : (s.abortMigration .abortedReset false).counter .migrationsAborted =
        satInc (s.counter .migrationsAborted) :=
      (State.counter_congr hcounters _).trans ((State.counter_bump ..).trans (if_pos rfl))
    have hsucc : (List.finRange 128).countP (movesAt s) =
        (List.finRange 128).countP (movesAt (s.abortMigration .abortedReset false)) + 1 := by simpa using hcount.symm
    rw [hcounter, hsucc, Function.iterate_succ_apply]


/-! ### Device reset -/

theorem rolledBack_deviceResetValues (s : State) (kind : ResetKind) (hold : Option Interval) :
    RolledBack s (fun _ => True) (s.deviceResetValues kind hold) := by
  obtain ⟨-, -, hrmt, hspl, hemn, -⟩ := deviceResetValues_blocks s kind hold
  exact (rolledBack_resetTables s).congr hrmt hspl (by rw [hemn])

/-- The error monitor keeps its losses, and its records but for their pins. -/
theorem deviceResetValues_emn (s : State) (kind : ResetKind) (hold : Option Interval) :
    (s.deviceResetValues kind hold).emn =
      { s.emn with suspects := (s.deviceResetValues kind hold).emn.suspects, decay := none } := by
  obtain ⟨-, -, -, -, hemn, -⟩ := deviceResetValues_blocks s kind hold
  rw [hemn, resetTables_emn]

/-- A migration in progress ends with the outcome ABORTED_RESET (R95). -/
theorem deviceResetValues_mge (s : State) (kind : ResetKind) (hold : Option Interval) :
    (s.deviceResetValues kind hold).mge =
      { queue := [], ctx := none
        last := match s.mge.ctx with
                | none => s.mge.last
                | some c => some (c.outcome .abortedReset) } := by
  obtain ⟨-, -, -, -, -, hmge, -⟩ := deviceResetValues_blocks s kind hold
  rw [hmge, resetTables_mge]
  cases hc : s.mge.ctx with
  | none => rw [abortMigration_of_idle hc]
  | some c => rw [(abortMigration_tables hc .abortedReset false).2.2.2]

theorem isMigrating_eq (st : EntryState) : st.isMigrating = st.next.isSome := by
  cases st <;> rfl

theorem movesAt_eq (s : State) : movesAt s = fun i => (s.rmt[i]).any fun e => e.st.next.isSome :=
  funext fun i => congrArg (Option.any · s.rmt[i]) (funext fun e => isMigrating_eq e.st)

theorem exec_rstNFall_starts (hs : s.inReset = false) :
    exec .rstNFall s = .next ((s.setPins { s.pins with rstN := false }).deviceResetValues .pin none) :=
  congrArg Host.Outcome.next (if_neg (Bool.eq_false_iff.mp hs))

theorem exec_rstNFall_prolongs (hs : s.inReset = true) :
    exec .rstNFall s = .next (s.setPins { s.pins with rstN := false }) :=
  congrArg Host.Outcome.next (if_pos hs)

/-- The pins, the management port and the record of what was sent, as a device reset finds them. -/
theorem exec_startsDeviceReset {c : Instr} {kind : ResetKind} {hold : Option Interval} (hs : s.inReset = false)
    (hc : c = .rstNFall ∧ kind = .pin ∧ hold = none ∨
      c = .deviceReset [] ∧ Heard s ∧ kind = .action ∧ hold = some ⟨10, 0⟩) :
    ∃ p m w, exec c s = .next (State.deviceResetValues { s with pins := p, mgp := m, wires := w } kind hold) ∧
      p = { s.pins with rstN := if kind = .pin then false else s.pins.rstN } ∧
      m.frame.abandoned = (if kind = .pin ∧ s.mgp.frame ≠ .idle then .ignored else .idle) ∧
      (kind = .pin → w = s.wires) ∧
      (kind = .action → w = { s.wires with mgTx := s.wires.mgTx ++ [List.replicate 16 false] }) := by
  rcases hc with ⟨rfl, rfl, rfl⟩ | ⟨rfl, hheard, rfl, rfl⟩
  · refine ⟨{ s.pins with rstN := false }, s.mgp, s.wires, ?_, rfl, ?_, fun _ => rfl, nofun⟩
    · exact exec_rstNFall_starts hs
    · rw [abandoned_eq]
      cases s.mgp.frame <;> rfl
  · exact ⟨s.pins, { s.mgp with frame := .idle }, { s.wires with mgTx := s.wires.mgTx ++ [List.replicate 16 false] },
      exec_deviceReset_taken (hears_of_heard hheard), rfl, rfl, nofun, fun _ => rfl⟩

/-- Settles O59: the rollbacks say what the tables hold, and the other blocks are read off. -/
theorem deviceResetKeepsTheMemoryDescription : Obligations.DeviceResetKeepsTheMemoryDescription := by
  unfold Obligations.DeviceResetKeepsTheMemoryDescription
  intro s c kind hold hs hc
  obtain ⟨p, m, w, hexec, hp, hm, hpin, haction⟩ := exec_startsDeviceReset hs hc
  obtain ⟨b, hb⟩ : ∃ b : State, b = { s with pins := p, mgp := m, wires := w } := ⟨_, rfl⟩
  obtain ⟨hpins, hrst, -, -, -, -, hpsc, hprf, hup, hdp, halc, hmgp, hcounters, hwires, hpending⟩ :=
    deviceResetValues_blocks b kind hold
  have hback := rolledBack_deviceResetValues b kind hold
  have hemn := deviceResetValues_emn b kind hold
  have hmge := deviceResetValues_mge b kind hold
  have hcounter := fun k => State.counter_congr hcounters k
  have hother := fun (k : Counter) hk => (hcounter k).trans (resetTables_counter b hk)
  have haborted := fun hcoh => (hcounter .migrationsAborted).trans (resetTables_aborted b hcoh)
  rw [movesAt_eq] at haborted
  rw [← hb] at hexec
  refine ⟨b.deviceResetValues kind hold, hexec, ?_⟩
  generalize b.deviceResetValues kind hold = t at *
  subst hb hp
  refine ⟨hrst, hpins, fun i => hback.done i trivial, fun x i ⟨j, hj⟩ => hback.freed x i ⟨j, trivial, hj⟩,
    fun x i hx => hback.kept x i fun j _ => hx j, fun x => (hback.changed x).trans (by simp), hback.length,
    fun n r hr => ⟨fun ⟨j, hj⟩ => hback.unpinned n r hr ⟨j, trivial, hj⟩,
      fun hx => hback.pinned n r hr fun j _ => hx j⟩,
    by rw [hemn], by rw [hemn], by rw [hemn], by rw [hmge], by rw [hmge], fun hn => ?_, fun c hn => ?_, hpsc, hprf, hup,
    hdp, halc, ?_, hother, haborted, fun h => hwires.trans (hpin h), fun h => hwires.trans (haction h), hpending⟩
  · rw [hmge]
    simp only [hn]
  · rw [hmge]
    simp only [hn]
    rfl
  · rw [hmgp, hm]
    rfl

/-! ### The end of a reset (R147, R174, R175) -/

theorem releaseReset_of_held (h : ¬ResetReleased s) : s.releaseReset = s := by
  unfold State.releaseReset
  split
  · rfl
  next hf => exact if_neg fun hr => h (by simp_all [ResetReleased])
  next hf => exact if_neg fun hr => h (by simp_all [ResetReleased, State.holdPassed, Option.all_eq_true])

theorem releaseReset_of_released (h : ResetReleased s) : s.releaseReset = s.endReset := by
  obtain ⟨hpin, ⟨hf, hsup⟩ | ⟨hf, hhold⟩⟩ := h
  · simp [State.releaseReset, hf, hsup, hpin]
  · have hpassed : s.holdPassed = true := by simpa [State.holdPassed, Option.all_eq_true] using hhold
    simp [State.releaseReset, hf, hpin, hpassed]

theorem rstRise_eq (s : State) (rise : Bool) :
    s.rstRise rise = { s with pins := { s.pins with rstN := s.pins.rstN || rise } } := by
  cases rise with
  | true => simp [State.rstRise, State.setPins]
  | false => simp [State.rstRise]

/-- The upstream link enters UP at the end of a reset, where UP_RST_n is high (R123, R136). -/
theorem upstreamEntry_endsReset (hr : ∀ tag, s.record tag = none) (hl : s.up.link = .down) (hf : s.rst.force = .none) :
    s.upstreamEntry =
      { s with up := if s.pins.upRstN then { s.up with link := .up, credits := 64 } else s.up } := by
  cases hp : s.pins.upRstN with
  | true => exact upstreamEntry_of_ready hl hp hf fun tag r h => absurd ((hr tag).symm.trans h) nofun
  | false => exact upstreamEntry_of_not_ready (.inr (.inl hp))

/-- The end of a pulse that has run its length, under an IDLE scrubber (R147). -/
theorem releasePulse_eq (hl : s.dp.link = .retrain) (hi : s.psc.state = .idle) :
    s.releasePulse =
      { s with dp := { s.dp with pulse := none, link := if s.pins.dpReady then .up else .retrain } } := by
  have hpsc : (s.setDp { s.dp with pulse := none }).psc.state = .idle := hi
  rw [State.releasePulse]
  cases hr : s.pins.dpReady with
  | true =>
    rw [downstreamEntry_enters (s := s.setDp { s.dp with pulse := none }) hl rfl hr, hpsc]
    rfl
  | false =>
    rw [downstreamEntry_stays (s := s.setDp { s.dp with pulse := none }) fun h => absurd (hr.symm.trans h.2.2) nofun]
    simp [State.setDp, hl]

theorem endReset_eq (hr : ∀ tag, s.record tag = none) (hl : s.up.link = .down) (hi : s.psc.state = .idle)
    (hd : s.dp.link = .retrain) :
    s.endReset =
      { s with
        rst := { s.rst with force := .none, hold := none }
        up := if s.pins.upRstN then { s.up with link := .up, credits := 64 } else s.up
        dp := if isDue s.dp.pulse then
            { s.dp with pulse := none, link := if s.pins.dpReady then .up else .retrain }
          else s.dp } := by
  obtain ⟨u, hu⟩ : ∃ u : State, u = { s with
      rst := { s.rst with force := .none, hold := none }
      up := if s.pins.upRstN then { s.up with link := .up, credits := 64 } else s.up } := ⟨_, rfl⟩
  have hentry : (s.setRst { s.rst with force := .none, hold := none }).upstreamEntry = u :=
    (upstreamEntry_endsReset (s := s.setRst { s.rst with force := .none, hold := none }) hr hl rfl).trans hu.symm
  have hend : s.endReset = if isDue u.dp.pulse then u.releasePulse else u :=
    congrArg (fun v : State => if isDue v.dp.pulse then v.releasePulse else v) hentry
  have hdp : u.dp = s.dp := by rw [hu]
  rw [hend, releasePulse_eq (hdp ▸ hd) (by rw [hu]; exact hi), hdp]
  cases isDue s.dp.pulse with
  | true => rw [hu]; rfl
  | false => rw [hu]; rfl

theorem isDue_of_running {t : Option Interval} (h : ∀ p, t = some p → p.elapsed < p.length) : isDue t = false := by
  cases t with
  | none => rfl
  | some p => simpa [isDue] using h p rfl

theorem isDue_of_passed {p : Interval} (h : p.length ≤ p.elapsed) : isDue (some p) = true := by
  simpa [isDue] using h

/-- The two rows that may end a reset. -/
theorem exec_endsReset {c : Instr} {rise : Bool}
    (hc : c = .deviceResetEnd rise ∧ u = { s with pins := { s.pins with rstN := s.pins.rstN || rise } } ∨
      c = .powerOnResetEnd rise ∧
        u = { s with
              pins := { s.pins with rstN := s.pins.rstN || rise }
              rst := { s.rst with supplies := true } }) :
    exec c s = .next u.releaseReset := by
  rcases hc with ⟨rfl, rfl⟩ | ⟨rfl, rfl⟩
  · exact congrArg (fun t => Host.Outcome.next (State.releaseReset t)) (rstRise_eq s rise)
  · exact congrArg (fun t => Host.Outcome.next (State.releaseReset (t.setRst { s.rst with supplies := true })))
      (rstRise_eq s rise)

/-- Settles O60: a reset ends where it is released, and a fall of RST_n in a reset only lowers the pin. -/
theorem resetsEnd : Obligations.ResetsEnd := by
  unfold Obligations.ResetsEnd
  refine ⟨fun s u c rise hc => ⟨fun h => ?_, fun h hr hl hi hd => ?_⟩, fun s hf => ?_⟩
  · rw [exec_endsReset hc, releaseReset_of_held h]
  · have hend : u.endReset = _ := endReset_eq (s := u) (by rcases hc with ⟨-, rfl⟩ | ⟨-, rfl⟩ <;> exact hr)
      (by rcases hc with ⟨-, rfl⟩ | ⟨-, rfl⟩ <;> exact hl) (by rcases hc with ⟨-, rfl⟩ | ⟨-, rfl⟩ <;> exact hi)
      (by rcases hc with ⟨-, rfl⟩ | ⟨-, rfl⟩ <;> exact hd)
    have hup : u.up = s.up := by rcases hc with ⟨-, rfl⟩ | ⟨-, rfl⟩ <;> rfl
    have hdp : u.dp = s.dp := by rcases hc with ⟨-, rfl⟩ | ⟨-, rfl⟩ <;> rfl
    have hupRst : u.pins.upRstN = s.pins.upRstN := by rcases hc with ⟨-, rfl⟩ | ⟨-, rfl⟩ <;> rfl
    have hready : u.pins.dpReady = s.pins.dpReady := by rcases hc with ⟨-, rfl⟩ | ⟨-, rfl⟩ <;> rfl
    rw [hup, hdp, hupRst, hready] at hend
    refine ⟨_, (exec_endsReset hc).trans (by rw [releaseReset_of_released h, hend]), rfl, fun hp => ?_,
      fun p hp hpassed => ?_⟩
    · exact if_neg (by simp [isDue_of_running hp])
    · exact if_pos (by rw [hp, isDue_of_passed hpassed])
  · exact exec_rstNFall_prolongs (by simpa [State.inReset] using hf)

end Sys2Proof.Proofs
end
